-- ==== Sys2Proof/Word.lean ====
section
/-! DEFINITION. The words of the device: octets and samples, and the fixed numbers of the manual. -/

namespace Sys2Proof

/-- An octet of the link, of tape or of the control port. -/
abbrev Byte := BitVec 8

/-- A sample: a signed 24-bit value (00, Samples and tape words). -/
abbrev Sample := BitVec 24

/-- The last segment number (00, Positions). -/
abbrev lastSegment : Nat := 16777215

/-- Pairs in a segment (00, Positions). -/
abbrev pairsPerSegment : Nat := 480

end Sys2Proof
end

