-- ==== Sys2Proof/Config.lean ====
section
/-! DEFINITION. What is fixed from outside: the configuration block's fields (10, Configuration) and the
free values of the tape codes, which the manual specifies only by what they can correct. -/

namespace Sys2Proof

/-- The copy statuses from least to most restrictive (00, Copy status order). -/
inductive CopyStatus where
  | openCopy | counted3 | counted2 | counted1 | spent | unknown
  deriving DecidableEq, Repr

/-- The link modes (R132), in the order of Formats. -/
inductive LinkMode where
  | off | normal | loop
  deriving DecidableEq, Repr

/-- The requantization modes (R36). -/
inductive Requant where
  | truncate | round | triangular | shaped
  deriving DecidableEq, Repr

/-- The fields of the configuration block (10, Configuration; 11, The configuration block). -/
structure Configuration where
  station : Nat
  groups : Byte
  authority : Byte
  linkMode : LinkMode
  wordLength : Nat
  requant : Requant
  original : CopyStatus
  /-- D, C and P: advance distance, confidence distance and prefill count. -/
  advance : Nat
  confidence : Nat
  prefill : Nat
  holdLimit : Nat
  recoveryCount : Nat
  kernel : Nat
  verifyLimit : Nat
  label : List Byte
  /-- The ten thresholds: play MENDED, RECOVERED, LOST, SAMPLES_CONCEALED, MUTES, then confidence. -/
  thresholds : List Nat
  deriving DecidableEq, Repr

/-- What the model reads for a configuration field while the configuration is absent. R81: every threshold is 0
then; the rules of the other fields act only on a configured device. -/
def Configuration.absent : Configuration :=
  { station := 0, groups := 0, authority := 0, linkMode := .off, wordLength := 16, requant := .truncate
    original := .openCopy, advance := 3, confidence := 1, prefill := 1, holdLimit := 8, recoveryCount := 4
    kernel := 0, verifyLimit := 0, label := [], thresholds := [] }

/-- FREE VALUE (log 6). Inner check octet `i` (0 to 3) of a block whose number and content octets are given: the
manual names the code by what it corrects (R23, 00 Check octets), not by its arithmetic. -/
opaque Config.innerCheckOctet : List Byte → Nat → Byte

/-- FREE VALUE (log 6). Octet of outer parity block `32 + i` in the column whose 32 data octets are given (R23). -/
opaque Config.outerParityOctet : List Byte → Nat → Byte

/-- FREE VALUE (log 19). The error of a chase update whose own latch is absent (CHASE_OFF has removed it and no frame 0
has followed), given the lead position and the offset: R175 states the error only from a latch. -/
opaque Config.unlatchedError : Int → Int → Int

/-- FREE VALUE (log 8). The offset of the play playout's position after segment 16,777,215 has been ended: R12 states
the position only where a next segment follows. -/
opaque Config.offsetAfterLast : Fin 480

end Sys2Proof
end

