-- ==== Sys2Proof/Syntax.lean ====
section
/-! DEFINITION. The commands of the block: one constructor per row of spec/opcode_table.json, with its operands. -/

namespace Sys2Proof

/-- The two heads of a stripe, A and B (02, Stripe content). -/
inductive Head where
  | a | b
  deriving DecidableEq, Repr

/-- The two channels of a pair. -/
inductive Channel where
  | left | right
  deriving DecidableEq, Repr

/-- The two playouts and the streams of counters they name: PLAY and CONFIDENCE (R74, R82). -/
inductive Playback where
  | play | confidence
  deriving DecidableEq, Repr

/-- One left and one right sample of the same instant. -/
structure Pair where
  left : Sample
  right : Sample
  deriving DecidableEq, Repr

/-- One slot of a link frame (11, The link frame). For the one-bit parts, `true` is dominant. -/
structure SlotBits where
  present : Bool
  status : Bool
  samples : Pair
  deriving DecidableEq, Repr

/-- A link frame as the bus holds it: marker, message bit and the twelve slots. `true` is dominant. -/
structure Frame where
  marker : Bool
  message : Bool
  slots : List SlotBits
  deriving DecidableEq, Repr

/-- What the inner check of R50 finds in a present block. The manual gives the code by its outcomes (00, Check
octets), so the finding comes with the block (log 5). -/
inductive InnerFinding where
  /-- No damage: CLEAN. -/
  | sound
  /-- One damaged octet: MENDED, with the 45 content octets as corrected. -/
  | oneDamaged (corrected : List Byte)
  /-- More damage: BAD, with the 45 content octets the outer code gives where it can rebuild the block. -/
  | heavier (rebuilt : List Byte)
  deriving DecidableEq, Repr

/-- One of the 38 block records of an arriving stripe (R44). -/
inductive BlockRecord where
  /-- Nothing readable; with the content the outer code gives where it can rebuild the block (log 5). -/
  | absent (rebuilt : List Byte)
  /-- 45 data octets and 4 inner check octets as read. -/
  | present (data check : List Byte) (finding : InnerFinding)
  deriving DecidableEq, Repr

/-- The order, inside one period, of frame 0's latches and of the frame's reading against the playouts' delivery
and the Router's transfer: R174, R128, R119 and R181 leave it open. -/
inductive FrameOrder where
  /-- Delivery and transfer, then the latches of frame 0, then the frame is read. -/
  | deliveryFirst
  /-- The latches of frame 0, then delivery and transfer, then the frame is read. -/
  | latchFirst
  /-- The latches of frame 0, then the frame is read, then delivery and transfer. -/
  | frameFirst
  deriving DecidableEq, Repr

/-- The orders the manual leaves open inside one word reference period (log 3). -/
structure PeriodOrder where
  frame : FrameOrder
  /-- R8 and R9: the prefill test of the period is taken before the entry to PREFILL. -/
  testFirst : Bool
  /-- R179: the 4096th holdover period is taken before a lead word of the same period. -/
  expiryFirst : Bool
  /-- R13, R17, R42: the segment ends this period brings due are left to be taken as steps of their own, at the
  latest at the start of the next period. -/
  endsApart : Bool
  deriving DecidableEq, Repr

/-- The operands of one word reference period. -/
structure Period where
  /-- The frame as the external bus holds it (R130). -/
  frame : Frame
  /-- The input converters' pair. -/
  lineIn : Pair
  order : PeriodOrder
  deriving DecidableEq, Repr

/-- A message as it completes on the link, past its check (R139, R141); the row of the table gives the kind. -/
structure LinkMessage where
  destination : Nat
  source : Nat
  body : List Byte
  deriving DecidableEq, Repr

/-- One of the four channel contexts (R65). -/
structure ContextId where
  playback : Playback
  channel : Channel
  deriving DecidableEq, Repr

/-- The commands of the block. `args` are the argument octets of a control port command frame as clocked in. -/
inductive Instr where
  | powerOn
  | resetAssert
  | resetRelease
  | cpselAssert
  | cpselRelease
  | configure (args : List Byte)
  | motion (args : List Byte)
  | modeSet (args : List Byte)
  | programSet (args : List Byte)
  | routeSet (args : List Byte)
  | routeRead (args : List Byte)
  | slotClaim (args : List Byte)
  | slotRelease (args : List Byte)
  | slotsRead (args : List Byte)
  | editPost (args : List Byte)
  | editCancel (args : List Byte)
  | editReap (args : List Byte)
  | tableSelect (args : List Byte)
  | tableWrite (args : List Byte)
  | tableRead (args : List Byte)
  | tableRewind (args : List Byte)
  | searchSet (args : List Byte)
  | chaseSet (args : List Byte)
  | chaseOff (args : List Byte)
  | chaseTrim (args : List Byte)
  | eventEnable (args : List Byte)
  | eventExchange (args : List Byte)
  | eventDetail (args : List Byte)
  | statusRead (args : List Byte)
  | countersRead (args : List Byte)
  | peaksRead (args : List Byte)
  | deckReset (args : List Byte)
  | linkRestart (args : List Byte)
  | wordReferencePeriod (period : Period)
  | advanceStripeArrival (head : Head) (blocks : List BlockRecord)
  | confidenceStripeArrival (head : Head) (blocks : List BlockRecord)
  | writeWindowHeadA (segment : Nat)
  | writeWindowHeadB (segment : Nat)
  | decodeStart
  | decodeCompletion
  | encodeStart
  | encodeCompletion
  | sendStart
  | sendCompletion
  | slotClaimMessage (message : LinkMessage)
  | slotReleaseMessage (message : LinkMessage)
  | editPostMessage (message : LinkMessage)
  | editCancelMessage (message : LinkMessage)
  | chaseSetMessage (message : LinkMessage)
  | editReportMessage (message : LinkMessage)
  | badMessage
  | statusWordCompletion (slot : Nat) (word : BitVec 64)
  | prefillEntry
  | playPlayoutStart
  | playSegmentEnd
  | confidencePlayoutStart
  | confidenceSegmentEnd
  | recordSealing
  | holdLimitPassed (context : ContextId)
  | mute (context : ContextId)
  | recoveryComplete (context : ContextId)
  | fadeInComplete (context : ContextId)
  | insertFadeInEnd
  | insertFadeOutEnd
  | linkFounding
  | alignCountEnd (marker : Bool)
  | skipEnd
  | messageDropped
  | echoFaults
  | doubleDrive (slot : Nat)
  | slotTimeout (slot : Nat)
  | leadSilent
  | holdoverExpiry
  | queuePlaceFill
  | unknownCode (code : Byte) (args : List Byte)
  | messageOfUnknownKind (kind : Nat) (message : LinkMessage)
  deriving DecidableEq, Repr

end Sys2Proof
end

