-- ==== Sys2Proof/WellFormed.lean ====
section
/-! DEFINITION. The checks that a term of `Instr` is a command of the device: lengths and ranges that the frames,
blocks and numbers of the manual have by their layout. -/

namespace Sys2Proof

/-- A command frame's length octet holds 0 to 255 (R183). -/
def argsWellFormed (args : List Byte) : Bool := decide (args.length ≤ 255)

/-- A link frame carries twelve slots (11, The link frame). -/
def Frame.wellFormed (f : Frame) : Bool := decide (f.slots.length = 12)

/-- A block's content is 45 octets and its inner check 4 (R23, R44). -/
def BlockRecord.wellFormed : BlockRecord → Bool
  | .absent rebuilt => decide (rebuilt.length = 45)
  | .present data check .sound => decide (data.length = 45 ∧ check.length = 4)
  | .present data check (.oneDamaged corrected) =>
      decide (data.length = 45 ∧ check.length = 4 ∧ corrected.length = 45)
  | .present data check (.heavier rebuilt) =>
      decide (data.length = 45 ∧ check.length = 4 ∧ rebuilt.length = 45)

/-- A stripe arrives with 38 block records (03, Stripe arrival). -/
def stripeWellFormed (blocks : List BlockRecord) : Bool :=
  decide (blocks.length = 38) && blocks.all BlockRecord.wellFormed

/-- Destination 8 bits, source 3 bits, body of 0 to 16 octets (R139). -/
def LinkMessage.wellFormed (m : LinkMessage) : Bool :=
  decide (m.destination ≤ 255 ∧ m.source ≤ 7 ∧ m.body.length ≤ 16)

/-- The command codes of Formats run from 01h to 1Ch. -/
def codeNamesCommand (code : Byte) : Bool := decide (1 ≤ code.toNat ∧ code.toNat ≤ 28)

/-- The six kinds of the kind table (07, Messages). -/
def kindInTable (kind : Nat) : Bool := [2, 3, 8, 9, 10, 12].contains kind

/-- The check of a command. -/
def Instr.wellFormed : Instr → Bool
  | .powerOn | .resetAssert | .resetRelease | .cpselAssert | .cpselRelease => true
  | .configure args | .motion args | .modeSet args | .programSet args | .routeSet args | .routeRead args
  | .slotClaim args | .slotRelease args | .slotsRead args | .editPost args | .editCancel args | .editReap args
  | .tableSelect args | .tableWrite args | .tableRead args | .tableRewind args | .searchSet args
  | .chaseSet args | .chaseOff args | .chaseTrim args | .eventEnable args | .eventExchange args
  | .eventDetail args | .statusRead args | .countersRead args | .peaksRead args | .deckReset args
  | .linkRestart args => argsWellFormed args
  | .wordReferencePeriod p => p.frame.wellFormed
  | .advanceStripeArrival _ blocks | .confidenceStripeArrival _ blocks => stripeWellFormed blocks
  | .writeWindowHeadA n | .writeWindowHeadB n => decide (n ≤ lastSegment)
  | .decodeStart | .decodeCompletion | .encodeStart | .encodeCompletion | .sendStart | .sendCompletion => true
  | .slotClaimMessage m | .slotReleaseMessage m | .editPostMessage m | .editCancelMessage m
  | .chaseSetMessage m | .editReportMessage m => m.wellFormed
  | .badMessage => true
  | .statusWordCompletion slot _ => decide (slot ≤ 11)
  | .prefillEntry | .playPlayoutStart | .playSegmentEnd | .confidencePlayoutStart | .confidenceSegmentEnd
  | .recordSealing | .holdLimitPassed _ | .mute _ | .recoveryComplete _ | .fadeInComplete _
  | .insertFadeInEnd | .insertFadeOutEnd | .linkFounding | .alignCountEnd _ | .skipEnd | .messageDropped
  | .echoFaults => true
  | .doubleDrive slot | .slotTimeout slot => decide (slot ≤ 11)
  | .leadSilent | .holdoverExpiry | .queuePlaceFill => true
  | .unknownCode code args => !codeNamesCommand code && argsWellFormed args
  | .messageOfUnknownKind kind m => decide (kind ≤ 31) && !kindInTable kind && m.wellFormed

end Sys2Proof
end

