-- ==== Sys2Proof/Decode.lean ====
section
/-! DEFINITION. The opcode table of this block gives no row any bits: its commands are events and frames. -/

namespace Sys2Proof

/-- The command a word spells by the table's bits. No row of spec/opcode_table.json gives bits, so no word spells
one. -/
def decodeTableWord (_nbits _w : Nat) : Option Instr := none

end Sys2Proof
end

