-- ==== Sys2Proof/Machine/State.lean ====
section
/-! DEFINITION. The state of the JH-420: every record the manual gives its blocks, as plain data, the queue of
waiting commands, and the state after reset. -/

namespace Sys2Proof.Machine

open Sys2Proof

/-! ### Positions, subcode -/

/-- A tape position: segment number and pair offset (00, Positions). -/
structure Position where
  segment : Nat
  offset : Nat
  deriving DecidableEq, Repr

/-- How the audio came to be on tape (02, The subcode record). -/
inductive Origin where
  | line | link | silence | insert
  deriving DecidableEq, Repr

/-- The subcode record (02). An absent program number is NONE. -/
structure Subcode where
  segment : Nat
  program : Option Nat
  indexMark : Bool
  editOffset : Option Nat
  copy : CopyStatus
  refused : Bool
  origin : Origin
  wordLength : Nat
  station : Nat
  label : List Byte
  deriving DecidableEq, Repr

/-! ### Segment Ring (01) -/

/-- The slot states but FREE, in the order of the slot state table; FREE is a slot with no record. -/
inductive SlotState where
  | gather | fill | decoded | playout | encoding | encoded | written | verify | checked | confOut
  deriving DecidableEq, Repr

/-- The playout marks (R71). -/
inductive Mark where
  | passed | interpolated | held | muted
  deriving DecidableEq, Repr

/-- One sample of the old audio: value, GOOD flag and, after playout, its mark (01, The segment record). -/
structure OldSample where
  value : Sample
  good : Bool
  mark : Option Mark
  deriving DecidableEq, Repr

/-- One pair of the old audio. -/
structure OldPair where
  left : OldSample
  right : OldSample
  deriving DecidableEq, Repr

/-- Block tallies: mended, recovered and lost (R51). -/
structure Tally where
  mended : Nat
  recovered : Nat
  lost : Nat
  deriving DecidableEq, Repr

/-- The gate decision (R122). -/
inductive Decision where
  | opened | shut
  deriving DecidableEq, Repr

/-- The two encoded stripes: 38 blocks of 50 octets each (R23; 11, Tape blocks). -/
structure Stripes where
  a : List (List Byte)
  b : List (List Byte)
  deriving DecidableEq, Repr

/-- The segment record of a slot that is not FREE (01, The segment record). -/
structure Segment where
  number : Nat
  state : SlotState
  advanceA : Bool
  advanceB : Bool
  confidenceA : Bool
  confidenceB : Bool
  old : Option (List OldPair)
  /-- New audio, one place per pair; a place is absent until its pair is stored. -/
  new : Option (List (Option Pair))
  gains : Option (List Nat)
  /-- The subcode; absent where nothing has been taken or carried. -/
  subcode : Option Subcode
  /-- Subcode validity: set is VALID, clear is CARRIED. -/
  valid : Bool
  advanceTally : Tally
  confidenceTally : Tally
  gate : Option CopyStatus
  decision : Option Decision
  editLink : Option Nat
  indexRequest : Bool
  editOffset : Option Nat
  stripes : Option Stripes
  writtenA : Bool
  writtenB : Bool
  late : Bool
  writeLate : Bool
  deriving DecidableEq, Repr

/-- The states of the play playout (01, The play playout). -/
inductive PlayState where
  | stopped | prefill | running
  deriving DecidableEq, Repr

/-- The play playout. Offset 480 stands for a segment that has ended and whose end (R11, R12) is due (log 8). -/
structure PlayPlayout where
  state : PlayState
  position : Position
  /-- Segment 16,777,215 has been ended since the last flush (R8, R12). -/
  ended : Bool
  deriving DecidableEq, Repr

/-- The confidence playout (01). Offset 480 as for the play playout. -/
structure ConfPlayout where
  running : Bool
  position : Position
  deriving DecidableEq, Repr

/-- The Segment Ring: sixteen slots and both playouts (R1). -/
structure Ring where
  slots : List (Option Segment)
  play : PlayPlayout
  conf : ConfPlayout
  deriving DecidableEq, Repr

/-! ### Recorder and Stripe Encoder (02) -/

/-- The recorder states (02, RECORD mode). -/
inductive RecorderState where
  | idle | awaitOrigin | filling
  deriving DecidableEq, Repr

/-- The recorder. -/
structure Recorder where
  state : RecorderState
  origin : Option Nat
  fill : Option Position
  markOwed : Bool
  program : Option Nat
  /-- The origin fixed by the source that fed the first pair of the fill (R31). -/
  fillOrigin : Option Origin
  deriving DecidableEq, Repr

/-- The encode in flight: the segment and the stripes its completion will leave (log 7). -/
structure EncodeJob where
  segment : Nat
  stripes : Stripes
  deriving DecidableEq, Repr

/-- The Stripe Encoder (02, The encoder) and the write horizon (R39). -/
structure Encoder where
  inFlight : Option EncodeJob
  last : Option Nat
  errorLeft : Int
  errorRight : Int
  generator : BitVec 32
  horizon : Option Nat
  deriving DecidableEq, Repr

/-! ### Stripe Decoder and Search Unit (03) -/

/-- The two streams of stripes. -/
inductive TapeStream where
  | advance | confidence
  deriving DecidableEq, Repr

/-- A queued stripe; its subcode is present where it is VALID (R47). `lateSeen` is the model's own field: the late flag
of the stripe's slot has been set at some time since the stripe was taken (R6; log 20). -/
structure QueuedStripe where
  stream : TapeStream
  segment : Nat
  head : Head
  subcode : Option Subcode
  blocks : List BlockRecord
  lateSeen : Bool
  deriving DecidableEq, Repr

/-- The last numbered stripe of a stream (R45). -/
structure Expectation where
  segment : Nat
  head : Head
  deriving DecidableEq, Repr

/-- The Stripe Decoder and the carry records (R54). The decode in flight is the front of the queue. -/
structure Decoder where
  queue : List QueuedStripe
  inFlight : Bool
  advance : Option Expectation
  confidence : Option Expectation
  playCarry : Option Subcode
  confCarry : Option Subcode
  deriving DecidableEq, Repr

/-- A search pattern (03, The Search Unit). -/
structure Pattern where
  enabled : Bool
  programValue : Byte
  programMask : Byte
  indexValue : Bool
  indexCompared : Bool
  stationValue : Byte
  stationMask : Byte
  labelValues : List Byte
  labelMasks : List Byte
  segmentEnabled : Bool
  segmentValue : Nat
  count : Nat
  matches_ : Nat
  lastHit : Option Nat
  deriving DecidableEq, Repr

/-- The Search Unit. -/
structure Search where
  patterns : List Pattern
  compared : Option Nat
  awaiting : Option Nat
  deriving DecidableEq, Repr

/-! ### Concealment Unit (04) and counters -/

/-- The states of a context (R66). -/
inductive ContextState where
  | clean | holding | fadingOut | muted | fadingIn
  deriving DecidableEq, Repr

/-- A sample as read from tape: value and GOOD flag (R66, History). -/
structure ReadSample where
  value : Sample
  good : Bool
  deriving DecidableEq, Repr

/-- A channel context (R66). The history is oldest first. -/
structure Context where
  state : ContextState
  gain : Nat
  fadeStart : Option Nat
  fadeStep : Nat
  hold : Sample
  holdRun : Nat
  recoveryRun : Nat
  history : List ReadSample
  last : Option Position
  deriving DecidableEq, Repr

/-- The Concealment Unit: four contexts and the kernel table of sixteen coefficients (R65, R78). -/
structure Conceal where
  playLeft : Context
  playRight : Context
  confLeft : Context
  confRight : Context
  kernel : List Int
  deriving DecidableEq, Repr

/-- The five counters of a stream (R82). -/
structure CounterSet where
  mended : Nat
  recovered : Nat
  lost : Nat
  concealed : Nat
  mutes : Nat
  deriving DecidableEq, Repr

/-- The counters, in the order of COUNTERS_READ (R82). -/
inductive CounterName where
  | mended | recovered | lost | concealed | mutes
  deriving DecidableEq, Repr

/-- The ten counters. -/
structure Counters where
  play : CounterSet
  conf : CounterSet
  deriving DecidableEq, Repr

/-! ### Edit Sequencer (05) -/

/-- Who posted an entry (05, The Edit Ring). -/
inductive Poster where
  | station (n : Nat)
  | localPort
  deriving DecidableEq, Repr

/-- What an entry does. -/
inductive Action where
  | punchIn | punchOut | mark
  deriving DecidableEq, Repr

/-- When an entry fires (R93). -/
inductive Trigger where
  | atPosition (segment offset : Nat)
  | search (pattern offset : Nat)
  | nextSegment (offset : Nat)
  deriving DecidableEq, Repr

/-- The fields of an edit post, and the nine octets it came in (R85, R197). -/
structure EditPost where
  tag : Byte
  action : Action
  chained : Bool
  trigger : Trigger
  fadeCode : Nat
  shape : Nat
  requiresLock : Bool
  octets : List Byte
  deriving DecidableEq, Repr

/-- The states of a place that is not EMPTY; EMPTY is a place with no entry. -/
inductive EditState where
  | pending | inserting | verifying | retired
  deriving DecidableEq, Repr

/-- The outcome of a fired entry. -/
inductive EditOutcome where
  | done | cancelled | abandoned | refusedCopy | broken
  deriving DecidableEq, Repr

/-- The status of a RETIRED entry, in the order of the entry table. -/
inductive EditStatus where
  | done | late | refusedMode | refusedState | refusedCopy | notLocked | cancelled | skipped | abandoned | broken
  deriving DecidableEq, Repr

/-- The result of a fired PUNCH_IN or MARK. -/
structure EditResult where
  first : Option Nat
  last : Option Nat
  inFlight : Nat
  tally : Nat
  weak : Bool
  unverified : Bool
  edgeConcealed : Bool
  lockLost : Bool
  deriving DecidableEq, Repr

/-- The report of an entry (R89); `none_` for a LOCAL poster. -/
inductive Report where
  | none_ | notDue | waiting | queued | sent
  deriving DecidableEq, Repr

/-- An entry of the Edit Ring. -/
structure Entry where
  state : EditState
  poster : Poster
  post : EditPost
  target : Option Position
  fired : Bool
  outcome : Option EditOutcome
  status : Option EditStatus
  result : Option EditResult
  report : Report
  deriving DecidableEq, Repr

/-- The sequencer states (R92). -/
inductive SeqState where
  | idle | waiting | inserting
  deriving DecidableEq, Repr

/-- The phases of an insertion. -/
inductive Phase where
  | fadeIn | full | fadeOut
  deriving DecidableEq, Repr

/-- The fade in progress: length, shape, step and the start gain of a fade-out. -/
structure Fade where
  length : Nat
  shape : Nat
  step : Nat
  start : Nat
  deriving DecidableEq, Repr

/-- The touch record of the segment in PLAYOUT (05, The sequencer). -/
structure Touch where
  insertion : Option Nat
  marks : List Nat
  spoiled : Bool
  deriving DecidableEq, Repr

/-- The Edit Sequencer: the Edit Ring of 32 places, the sequencer record and the fade table of 64 points. -/
structure Edit where
  places : List (Option Entry)
  tail : Nat
  head : Nat
  state : SeqState
  phase : Option Phase
  insertion : Option Nat
  gain : Nat
  fade : Option Fade
  touch : Touch
  fadeTable : List Nat
  deriving DecidableEq, Repr

/-! ### Copy Gate (06) and Router (08) -/

/-- Router sources (08, The Crosspoint Router). -/
inductive Source where
  | lineIn | tape | confidence | linkRx (slot : Nat) | silence
  deriving DecidableEq, Repr

/-- Router destinations. -/
inductive Destination where
  | mainOut | monitorOut | recordFeed | linkTx (slot : Nat)
  deriving DecidableEq, Repr

/-- What this station keeps for a link slot it drives: the relay history, newest first (R128), the status word
latched at the last frame 0 (R165), and whether the audio of the last frame was held back (R127, R129). -/
structure Relay where
  history : List CopyStatus
  word : Option (BitVec 64)
  heldBack : Bool
  deriving DecidableEq, Repr

/-- The Copy Gate (R114), with the feed of the last period (R129). -/
structure Gate where
  lastDecision : Decision
  recordedRun : Option CopyStatus
  relays : List Relay
  feedSource : Source
  feedStatus : CopyStatus
  deriving DecidableEq, Repr

/-- A route entry. -/
structure Route where
  source : Source
  destination : Destination
  enabled : Bool
  deriving DecidableEq, Repr

/-- The Crosspoint Router: eight routes and four peak meters (R169). -/
structure Router where
  routes : List Route
  mainLeft : Nat
  mainRight : Nat
  monitorLeft : Nat
  monitorRight : Nat
  deriving DecidableEq, Repr

/-! ### Link Port (07) and Slot Table (08) -/

/-- The attachment states. -/
inductive Attachment where
  | off | listen | align | attached
  deriving DecidableEq, Repr

/-- The receiver states (R140). -/
inductive Receiver where
  | idle | skip | receiving
  deriving DecidableEq, Repr

/-- The origin of a queued message (R149). A report detached from its place by EDIT_REAP is `detachedReport`
(R88). -/
inductive MessageOrigin where
  | localClaim | localRelease | owedRelease | report (place : Nat) | detachedReport | refusalReport
  deriving DecidableEq, Repr

/-- A message of the outgoing queue (R149). `sent` is absent while the message is not on the link, and otherwise
the number of its bits already driven. -/
structure Queued where
  kind : Nat
  destination : Nat
  body : List Byte
  losses : Nat
  origin : MessageOrigin
  sent : Option Nat
  deriving DecidableEq, Repr

/-- The Link Port record (07), with the status words being read (R131) and the pairs read in the slots in the
last frame (R166). -/
structure Link where
  attachment : Attachment
  listenWait : Nat
  alignCount : Nat
  frameCount : Nat
  misplacedThis : Bool
  misplacedPrevious : Bool
  receiver : Receiver
  skipRun : Nat
  quiet : Nat
  /-- The message bits read so far, oldest first; `true` is dominant. -/
  bits : List Bool
  yieldCount : Nat
  echoRun : Nat
  queue : List Queued
  bad : Nat
  words : List (BitVec 64)
  received : List Pair
  deriving DecidableEq, Repr

/-- The motions (R186), in the order of their codes. -/
inductive Motion where
  | stopped | playing | windFwd | windRev
  deriving DecidableEq, Repr

/-- The last valid status word of a slot's owner: position and motion (08, The Slot Table). -/
structure WordPosition where
  position : Position
  motion : Motion
  deriving DecidableEq, Repr

/-- Own release of a slot entry. -/
inductive OwnRelease where
  | none_ | owed | queued
  deriving DecidableEq, Repr

/-- Drive of a slot entry. -/
inductive Drive where
  | driving | stopped
  deriving DecidableEq, Repr

/-- A Slot Table entry; it is FREE while it has no owner. -/
structure SlotEntry where
  owner : Option Nat
  copy : Option CopyStatus
  lastWord : Option WordPosition
  absence : Nat
  invalidRun : Nat
  ownClaim : Bool
  ownRelease : OwnRelease
  drive : Option Drive
  deriving DecidableEq, Repr

/-! ### Chase Unit (09) -/

/-- The chase states. -/
inductive ChaseState where
  | off | waiting | seeking | catching | locked | holdover
  deriving DecidableEq, Repr

/-- The wind requests (R177). -/
inductive WindRequest where
  | none_ | windFwd | windRev
  deriving DecidableEq, Repr

/-- The last lead word taken: its position, its motion, and the word reference periods begun since its frame 0
(R174). -/
structure LeadWord where
  position : Position
  motion : Motion
  age : Nat
  deriving DecidableEq, Repr

/-- The chase record (09). -/
structure Chase where
  state : ChaseState
  leadSlot : Option Nat
  leadOwner : Option Nat
  offset : Option Int
  trim : Int
  ownLatch : Option Nat
  leadWord : Option LeadWord
  error : Option Int
  correction : Int
  wind : WindRequest
  lockRun : Nat
  wordGap : Nat
  holdoverCount : Nat
  deriving DecidableEq, Repr

/-! ### Control Port (10) and events -/

/-- The modes. -/
inductive Mode where
  | play | record | insert
  deriving DecidableEq, Repr

/-- The tables of the table port. -/
inductive TableName where
  | fade | kernel
  deriving DecidableEq, Repr

/-- The transaction states (R183). -/
inductive Transaction where
  | idle | command | response
  deriving DecidableEq, Repr

/-- The responses (R184), in the order of their codes. -/
inductive ResponseCode where
  | done | busy | refused | badArg | notConfigured | full | noneReady | notFound | notCancellable | queueFull
  | duplicate
  deriving DecidableEq, Repr

/-- The reasons of REFUSED (R184), in the order of their codes, which begin at 01h. -/
inductive Reason where
  | alreadyConfigured | notPlaying | wrongMode | notAttached | notOwner | notChasing | tableEnd
  deriving DecidableEq, Repr

/-- A response: its code and its data octets (R183). -/
structure Response where
  code : ResponseCode
  data : List Byte
  deriving DecidableEq, Repr

/-- The Control Port's record but the configuration and the events (10). -/
structure Port where
  motion : Motion
  mode : Mode
  table : TableName
  address : Nat
  endWritten : Bool
  transaction : Transaction
  /-- The octets of the frame clocked in; they stay until the next assertion of CPSEL (R183). -/
  octets : List Byte
  response : Option Response
  deriving DecidableEq, Repr

/-- Causes of LINK_STATE (R132). -/
inductive LinkCause where
  | configured | markerHeard | founded | aligned | alignEarly | alignMissing | misaligned | echoFaults | restart
  deriving DecidableEq, Repr

/-- Causes of SLOT_CHANGE (R171). -/
inductive SlotCause where
  | claimed | released | learned | replaced | timeout | releaseLost
  deriving DecidableEq, Repr

/-- Causes of a REFUSED CLAIM_RESULT (R171). -/
inductive ClaimCause where
  | taken | dropped | detached
  deriving DecidableEq, Repr

/-- Causes of SLOT_LOST (R171). -/
inductive LostCause where
  | overruled | doubleDrive | detached
  deriving DecidableEq, Repr

/-- Causes of COPY_REFUSED (R122, R123). -/
inductive CopyCause where
  | feedSpent | feedUnknown | oldUnknown
  deriving DecidableEq, Repr

/-- Causes of CHASE_CHANGE (R182). -/
inductive ChaseCause where
  | set | offCommand | far | near | locked | slip | newLead | leadFree | leadSilent | restart | return_ | expired
  deriving DecidableEq, Repr

/-- Streams of RING_OVERRUN (R20). -/
inductive OverrunStream where
  | advance | confidence | fill
  deriving DecidableEq, Repr

/-- Causes of RING_OVERRUN (R20). -/
inductive OverrunCause where
  | slotHeld | queueFull | noFillSlot
  deriving DecidableEq, Repr

/-- Causes of MODE_CHANGE (R186). -/
inductive ModeCause where
  | motion | deckReset | numberLimit
  deriving DecidableEq, Repr

/-- The event kinds with their details, in the order of the event table (10, Events): LINK_STATE is kind 0 and
MODE_CHANGE kind 17. A CLAIM_RESULT with no cause is WON. -/
inductive EventDetail where
  | linkState (state : Attachment) (cause : LinkCause)
  | slotChange (slot : Nat) (owner : Option Nat) (cause : SlotCause)
  | claimResult (slot : Nat) (refusedBy : Option ClaimCause)
  | slotLost (slot : Nat) (cause : LostCause)
  | messageDropped (kind destination : Nat)
  | linkFault (kind : Nat)
  | foreignRequest (kind source : Nat)
  | editRetired (place : Nat) (poster : Poster) (tag : Byte) (status : EditStatus)
  | editDrained
  | gateChange (decision : Decision) (segment : Nat) (mode : Mode)
  | copyRefused (segment : Nat) (mode : Mode) (cause : CopyCause)
  | errorRate (stream : Playback) (counter : CounterName)
  | muted (stream : Playback) (channel : Channel) (segment : Nat)
  | searchHit (pattern segment : Nat)
  | chaseChange (state : ChaseState) (cause : ChaseCause) (error : Option Int)
  | writeLate (segment : Nat)
  | ringOverrun (stream : OverrunStream) (segment : Nat) (head : Option Head) (cause : OverrunCause)
  | modeChange (mode : Mode) (cause : ModeCause)
  deriving DecidableEq, Repr

/-- The event set (R189): bit k of a set stands for kind k; one latched detail per kind. -/
structure Events where
  pending : BitVec 18
  enabled : BitVec 18
  details : List (Option EventDetail)
  deriving DecidableEq, Repr

/-! ### Outputs and the whole device -/

/-- The answer to a write window (02, Write windows): NO_WRITE, or a stripe of 38 blocks. -/
inductive WindowAnswer where
  | noWrite
  | stripe (blocks : List (List Byte))
  deriving DecidableEq, Repr

/-- What the device last gave at its head-channel port, its converter port and the link. -/
structure Outputs where
  window : Option WindowAnswer
  main : Pair
  monitor : Pair
  driven : Frame
  deriving DecidableEq, Repr

/-- The device: the records of its blocks. -/
structure Device where
  resetHeld : Bool
  config : Option Configuration
  port : Port
  events : Events
  ring : Ring
  recorder : Recorder
  encoder : Encoder
  decoder : Decoder
  search : Search
  conceal : Conceal
  counters : Counters
  edit : Edit
  gate : Gate
  router : Router
  link : Link
  table : List SlotEntry
  chase : Chase
  outputs : Outputs
  deriving DecidableEq, Repr

/-- The machine: the device and the queue of commands that are waiting, first in, first out (log 1). -/
structure State where
  dev : Device
  pending : List Instr
  deriving DecidableEq, Repr

/-- Reasons to stop with a fault. The manual gives the device no fault, so there is none. -/
inductive Fault where
  deriving DecidableEq, Repr

/-- Reasons to refuse a command. -/
inductive Refusal where
  /-- No meaning yet: raised only by an arm of `exec` that stands unmodelled; safe, no effect is claimed. -/
  | notModelled (mnemonic : String)
  deriving DecidableEq, Repr

/-! ### Values after power-on and after the reset line -/

/-- Silence (00). -/
def silentPair : Pair := { left := 0, right := 0 }

/-- A slot no station drives: every bit recessive (R130), so its samples read as all ones. -/
def recessiveSlot : SlotBits :=
  { present := false, status := false, samples := { left := BitVec.allOnes 24, right := BitVec.allOnes 24 } }

/-- A frame with every bit recessive. -/
def recessiveFrame : Frame := { marker := false, message := false, slots := List.replicate 12 recessiveSlot }

/-- Block tallies 0. -/
def Tally.zero : Tally := { mended := 0, recovered := 0, lost := 0 }

/-- The start condition of a context (R66). -/
def Context.start : Context :=
  { state := .muted, gain := 0, fadeStart := none, fadeStep := 0, hold := 0, holdRun := 0, recoveryRun := 0
    history := [], last := none }

/-- The kernel table after reset (R78). -/
def kernelDefaults : List Int :=
  [0, 32, 32, 0] ++ [-4, 36, 36, -4] ++ [-2, 34, 34, -2] ++ [8, 24, 24, 8]

/-- The fade table after reset (R100): shapes 0 to 3. -/
def fadeDefaults : List Nat :=
  [0, 16, 32, 48, 64, 80, 96, 112, 128, 144, 160, 176, 192, 208, 224, 240] ++
  [0, 25, 50, 74, 98, 121, 142, 162, 181, 198, 213, 226, 237, 245, 251, 255] ++
  [0, 1, 4, 9, 16, 25, 36, 49, 64, 81, 100, 121, 144, 169, 196, 225] ++
  [0, 31, 60, 87, 112, 135, 156, 175, 192, 207, 220, 231, 240, 247, 252, 255]

/-- A search pattern after reset (03). -/
def Pattern.initial : Pattern :=
  { enabled := false, programValue := 0, programMask := 0, indexValue := false, indexCompared := false
    stationValue := 0, stationMask := 0, labelValues := [0, 0, 0, 0], labelMasks := [0, 0, 0, 0]
    segmentEnabled := false, segmentValue := 0, count := 1, matches_ := 0, lastHit := none }

/-- Counters at 0. -/
def CounterSet.zero : CounterSet := { mended := 0, recovered := 0, lost := 0, concealed := 0, mutes := 0 }

/-- An empty touch record. -/
def Touch.empty : Touch := { insertion := none, marks := [], spoiled := false }

/-- A relay with nothing latched. -/
def Relay.empty : Relay := { history := [], word := none, heldBack := false }

/-- A FREE Slot Table entry (08, The Slot Table). -/
def SlotEntry.free : SlotEntry :=
  { owner := none, copy := none, lastWord := none, absence := 0, invalidRun := 0, ownClaim := false
    ownRelease := .none_, drive := none }

/-- The chase record after reset (09). -/
def Chase.initial : Chase :=
  { state := .off, leadSlot := none, leadOwner := none, offset := none, trim := 0, ownLatch := none
    leadWord := none, error := none, correction := 0, wind := .none_, lockRun := 0, wordGap := 0
    holdoverCount := 0 }

/-- The Control Port after reset (10). -/
def Port.initial : Port :=
  { motion := .stopped, mode := .play, table := .fade, address := 0, endWritten := false, transaction := .idle
    octets := [], response := none }

/-- No event pending, none enabled, no detail (R189). -/
def Events.initial : Events := { pending := 0, enabled := 0, details := List.replicate 18 none }

/-- The Segment Ring after reset (R1, R8, R16). -/
def Ring.initial : Ring :=
  { slots := List.replicate 16 none
    play := { state := .stopped, position := { segment := 0, offset := 0 }, ended := false }
    conf := { running := false, position := { segment := 0, offset := 0 } } }

/-- The recorder after reset (02). -/
def Recorder.initial : Recorder :=
  { state := .idle, origin := none, fill := none, markOwed := false, program := none, fillOrigin := none }

/-- The encoder after reset (02); the generator's value before configuration is log 22. -/
def Encoder.initial : Encoder :=
  { inFlight := none, last := none, errorLeft := 0, errorRight := 0, generator := 0, horizon := none }

/-- The decoder after reset (03). -/
def Decoder.initial : Decoder :=
  { queue := [], inFlight := false, advance := none, confidence := none, playCarry := none, confCarry := none }

/-- The Search Unit after reset (03). -/
def Search.initial : Search :=
  { patterns := List.replicate 4 Pattern.initial, compared := none, awaiting := none }

/-- The Concealment Unit after reset (R66, R78). -/
def Conceal.initial : Conceal :=
  { playLeft := Context.start, playRight := Context.start, confLeft := Context.start, confRight := Context.start
    kernel := kernelDefaults }

/-- The counters after reset. -/
def Counters.initial : Counters := { play := CounterSet.zero, conf := CounterSet.zero }

/-- The Edit Sequencer after reset (R84; 05, The sequencer). -/
def Edit.initial : Edit :=
  { places := List.replicate 32 none, tail := 0, head := 0, state := .idle, phase := none, insertion := none
    gain := 0, fade := none, touch := Touch.empty, fadeTable := fadeDefaults }

/-- The Copy Gate after reset (R114). -/
def Gate.initial : Gate :=
  { lastDecision := .opened, recordedRun := none, relays := List.replicate 12 Relay.empty
    feedSource := .silence, feedStatus := .openCopy }

/-- The routes after reset (08). -/
def Router.initial : Router :=
  { routes :=
      [{ source := .tape, destination := .mainOut, enabled := true },
       { source := .lineIn, destination := .recordFeed, enabled := true },
       { source := .confidence, destination := .monitorOut, enabled := true }] ++
      List.replicate 5 { source := .silence, destination := .mainOut, enabled := false }
    mainLeft := 0, mainRight := 0, monitorLeft := 0, monitorRight := 0 }

/-- The Link Port after reset (07). -/
def Link.initial : Link :=
  { attachment := .off, listenWait := 0, alignCount := 0, frameCount := 0, misplacedThis := false
    misplacedPrevious := false, receiver := .idle, skipRun := 0, quiet := 0, bits := [], yieldCount := 0
    echoRun := 0, queue := [], bad := 0, words := List.replicate 12 0, received := List.replicate 12 silentPair }

/-- The outputs after reset: silence, every link bit recessive, no window answered yet. -/
def Outputs.initial : Outputs :=
  { window := none, main := silentPair, monitor := silentPair, driven := recessiveFrame }

/-- The device after power-on and after the reset line (R193). -/
def Device.reset : Device :=
  { resetHeld := false, config := none, port := Port.initial, events := Events.initial, ring := Ring.initial
    recorder := Recorder.initial, encoder := Encoder.initial, decoder := Decoder.initial
    search := Search.initial, conceal := Conceal.initial, counters := Counters.initial, edit := Edit.initial
    gate := Gate.initial, router := Router.initial, link := Link.initial
    table := List.replicate 12 SlotEntry.free, chase := Chase.initial, outputs := Outputs.initial }

/-- The machine right after reset, with no command waiting. -/
def State.reset : State := { dev := Device.reset, pending := [] }

end Sys2Proof.Machine
end

