-- ==== Sys2Proof/Machine/Ops.lean ====
section
/-! DEFINITION. The named operations over the device's records: updates of one block, the slots of the Segment
Ring, the places of the Edit Ring, and the outgoing queue. -/

namespace Sys2Proof.Machine

open Sys2Proof

/-! ### Update of one block -/

def Device.setResetHeld (d : Device) (x : Bool) : Device := { d with resetHeld := x }
def Device.setConfig (d : Device) (x : Option Configuration) : Device := { d with config := x }
def Device.setPort (d : Device) (x : Port) : Device := { d with port := x }
def Device.setEvents (d : Device) (x : Events) : Device := { d with events := x }
def Device.setRing (d : Device) (x : Ring) : Device := { d with ring := x }
def Device.setRecorder (d : Device) (x : Recorder) : Device := { d with recorder := x }
def Device.setEncoder (d : Device) (x : Encoder) : Device := { d with encoder := x }
def Device.setDecoder (d : Device) (x : Decoder) : Device := { d with decoder := x }
def Device.setSearch (d : Device) (x : Search) : Device := { d with search := x }
def Device.setConceal (d : Device) (x : Conceal) : Device := { d with conceal := x }
def Device.setCounters (d : Device) (x : Counters) : Device := { d with counters := x }
def Device.setEdit (d : Device) (x : Edit) : Device := { d with edit := x }
def Device.setGate (d : Device) (x : Gate) : Device := { d with gate := x }
def Device.setRouter (d : Device) (x : Router) : Device := { d with router := x }
def Device.setLink (d : Device) (x : Link) : Device := { d with link := x }
def Device.setTable (d : Device) (x : List SlotEntry) : Device := { d with table := x }
def Device.setChase (d : Device) (x : Chase) : Device := { d with chase := x }
def Device.setOutputs (d : Device) (x : Outputs) : Device := { d with outputs := x }

/-- The configuration in force; before acceptance, what `Configuration.absent` says. -/
def cfg (d : Device) : Configuration := d.config.getD Configuration.absent

/-- Configured: the configuration is present (10). -/
def configured (d : Device) : Bool := d.config.isSome

/-! ### Numbers -/

/-- A 24-bit sample from an exact value that lies in its range. -/
def sampleOf (x : Int) : Sample := BitVec.ofInt 24 x

/-- Saturation to the 24-bit range (R70). -/
def saturateSample (x : Int) : Sample := sampleOf (max (-8388608) (min 8388607 x))

/-- The magnitude of a sample (R169). -/
def magnitude (x : Sample) : Nat := x.toInt.natAbs

/-- A position as a sample count (00, Positions). -/
def sampleCount (p : Position) : Nat := p.segment * 480 + p.offset

/-- The position after pair 479 of segment 16,777,215, which no pair follows: the segment number stays and the offset is a
free value (R12, R165, R174; log 8). -/
def positionAfterLast : Position := { segment := lastSegment, offset := Config.offsetAfterLast.val }

/-- A position whose segment has ended, as the position of the pair that follows (00, Positions; log 8). -/
def normalPosition (p : Position) : Position :=
  if p.offset < 480 then p
  else if p.segment < lastSegment then { segment := p.segment + 1, offset := 0 } else positionAfterLast

/-- The order of copy statuses (00, Copy status order). -/
def copyRank : CopyStatus → Nat
  | .openCopy => 0 | .counted3 => 1 | .counted2 => 2 | .counted1 => 3 | .spent => 4 | .unknown => 5

/-- "The more restrictive of" two statuses (00). -/
def moreRestrictive (x y : CopyStatus) : CopyStatus := if copyRank x < copyRank y then y else x

/-! ### The slots of the Segment Ring -/

/-- What the one slot of segment number `n` holds (R1): slot n modulo 16 and no other. -/
def slotOf (n : Nat) (d : Device) : Option Segment := d.ring.slots.getD (n % 16) none

/-- The record of segment `n`, where its slot holds it. -/
def held (n : Nat) (d : Device) : Option Segment :=
  match slotOf n d with
  | some r => if r.number = n then some r else none
  | none => none

/-- The record of segment `n`, where its slot holds it in the state named. -/
def heldIn (st : SlotState) (n : Nat) (d : Device) : Option Segment :=
  match held n d with
  | some r => if r.state = st then some r else none
  | none => none

/-- Store a record in its slot (R1). -/
def putSegment (r : Segment) (d : Device) : Device :=
  d.setRing { d.ring with slots := d.ring.slots.set (r.number % 16) (some r) }

/-- Make the slot of segment number `n` FREE: every field of its record goes (R2). -/
def clearSlot (n : Nat) (d : Device) : Device :=
  d.setRing { d.ring with slots := d.ring.slots.set (n % 16) none }

/-- The records in the ring. -/
def records (d : Device) : List Segment := d.ring.slots.filterMap id

/-- Put a number into a rising list. -/
def insertRising (n : Nat) : List Nat → List Nat
  | [] => [n]
  | m :: rest => if n ≤ m then n :: m :: rest else m :: insertRising n rest

/-- The segment numbers of the records that satisfy `p`, rising. Where a rule acts on several slots at one event
the model takes them in this order (log 11). -/
def segmentsWhere (p : Segment → Bool) (d : Device) : List Nat :=
  (((records d).filter p).map (·.number)).foldr insertRising []

/-- The lowest segment number held in the state named. -/
def lowestIn (st : SlotState) (d : Device) : Option Nat :=
  (segmentsWhere (fun r => r.state == st) d).head?

/-- A record with all 960 samples LOST (R2, R3). -/
def lostPair : OldPair :=
  { left := { value := 0, good := false, mark := none }, right := { value := 0, good := false, mark := none } }

/-- Old audio of 960 LOST samples. -/
def lostAudio : List OldPair := List.replicate 480 lostPair

/-- The record at start of a slot leaving FREE (R2), before the fields its event names. -/
def freshSegment (n : Nat) (st : SlotState) : Segment :=
  { number := n, state := st, advanceA := false, advanceB := false, confidenceA := false, confidenceB := false
    old := none, new := none, gains := none, subcode := none, valid := false, advanceTally := Tally.zero
    confidenceTally := Tally.zero, gate := none, decision := none, editLink := none, indexRequest := false
    editOffset := none, stripes := none, writtenA := false, writtenB := false, late := false, writeLate := false }

/-! ### The places of the Edit Ring -/

/-- The entry of a place; absent where the place is EMPTY. -/
def entryAt (p : Nat) (d : Device) : Option Entry := d.edit.places.getD p none

/-- Store an entry at a place. -/
def putEntry (p : Nat) (e : Entry) (d : Device) : Device :=
  d.setEdit { d.edit with places := d.edit.places.set p (some e) }

/-- Change the entry of a place, if it holds one. -/
def updateEntry (p : Nat) (f : Entry → Entry) (d : Device) : Device :=
  match entryAt p d with
  | some e => putEntry p (f e) d
  | none => d

/-- Change the result of the entry of a place, if it has one. -/
def updateResult (p : Nat) (f : EditResult → EditResult) (d : Device) : Device :=
  updateEntry p (fun e => { e with result := e.result.map f }) d

/-- The 32 places in ring order from the tail (R84). -/
def placesInOrder (d : Device) : List Nat := (List.range 32).map (fun i => (d.edit.tail + i) % 32)

/-- The first place in ring order from the tail whose entry satisfies `p`. -/
def firstPlace (p : Entry → Bool) (d : Device) : Option Nat :=
  (placesInOrder d).find? (fun i => ((entryAt i d).map p).getD false)

/-- The head of work: the oldest PENDING entry whose fired flag is clear (R92). -/
def headOfWork (d : Device) : Option Nat := firstPlace (fun e => e.state == .pending && !e.fired) d

/-- Replace the touch record. -/
def setTouch (t : Touch) (d : Device) : Device := d.setEdit { d.edit with touch := t }

/-- Whether the touch record of the segment in PLAYOUT names a place (R105). -/
def touchNames (p : Nat) (d : Device) : Bool :=
  d.edit.touch.insertion == some p || d.edit.touch.marks.contains p

/-! ### The outgoing queue -/

/-- Kind codes (07, Messages). -/
def kindSlotClaim : Nat := 2
def kindSlotRelease : Nat := 3
def kindEditCancel : Nat := 8
def kindEditPost : Nat := 9
def kindEditReport : Nat := 10
def kindChaseSet : Nat := 12

/-- Kinds 00h to 07h are URGENT (R139). -/
def urgentKind (kind : Nat) : Bool := kind < 8

/-- A message that joins the queue: not on the link, no loss yet. -/
def newMessage (kind destination : Nat) (body : List Byte) (origin : MessageOrigin) : Queued :=
  { kind := kind, destination := destination, body := body, losses := 0, origin := origin, sent := none }

/-- Join the queue behind the last message of its own class (R149). -/
def joinQueue (m : Queued) (q : List Queued) : List Queued :=
  if urgentKind m.kind then
    q.filter (fun x => urgentKind x.kind) ++ [m] ++ q.filter (fun x => !urgentKind x.kind)
  else q ++ [m]

/-- Replace the outgoing queue. -/
def setQueue (q : List Queued) (d : Device) : Device := d.setLink { d.link with queue := q }

/-- The station is ATTACHED. -/
def attached (d : Device) : Bool := d.link.attachment == .attached

/-- The outgoing queue takes an offered message (R150). -/
def queueTakes (d : Device) : Bool := attached d && d.link.queue.length < 8

/-- The first message of the queue that satisfies `p` leaves it. -/
def withoutFirst (p : Queued → Bool) (q : List Queued) : List Queued := q.eraseP p

/-- A queued message of this station about a slot: its claim or its release. -/
def isSlotMessage (kind slot : Nat) (m : Queued) : Bool :=
  m.kind == kind && m.body == [BitVec.ofNat 8 slot]

/-! ### The Slot Table -/

/-- The entry of a link slot. -/
def slotEntry (k : Nat) (d : Device) : SlotEntry := d.table.getD k SlotEntry.free

/-- Store the entry of a link slot. -/
def putSlotEntry (k : Nat) (e : SlotEntry) (d : Device) : Device := d.setTable (d.table.set k e)

/-- The entry is HELD by this station. -/
def ownsSlot (k : Nat) (d : Device) : Bool := (slotEntry k d).owner == some (cfg d).station

/-- The station drives slot `k`: ATTACHED, the entry HELD by this station, the drive DRIVING (R164). -/
def drivesSlot (k : Nat) (d : Device) : Bool :=
  attached d && ownsSlot k d && (slotEntry k d).drive == some .driving

/-- What this station keeps for a slot it drives. -/
def relayOf (k : Nat) (d : Device) : Relay := d.gate.relays.getD k Relay.empty

/-- Replace what this station keeps for a slot it drives. -/
def putRelay (k : Nat) (r : Relay) (d : Device) : Device :=
  d.setGate { d.gate with relays := d.gate.relays.set k r }

/-! ### Contexts -/

/-- The record of a context (R65). -/
def contextOf (c : ContextId) (d : Device) : Context :=
  match c.playback, c.channel with
  | .play, .left => d.conceal.playLeft
  | .play, .right => d.conceal.playRight
  | .confidence, .left => d.conceal.confLeft
  | .confidence, .right => d.conceal.confRight

/-- Store the record of a context. -/
def putContext (c : ContextId) (x : Context) (d : Device) : Device :=
  match c.playback, c.channel with
  | .play, .left => d.setConceal { d.conceal with playLeft := x }
  | .play, .right => d.setConceal { d.conceal with playRight := x }
  | .confidence, .left => d.setConceal { d.conceal with confLeft := x }
  | .confidence, .right => d.setConceal { d.conceal with confRight := x }

end Sys2Proof.Machine
end

