-- ==== Sys2Proof/Machine/Flags.lean ====
section
/-! DEFINITION. The event set and the attention line (R189 to R191), and the ten counters with their thresholds
(R59, R80, R81). -/

namespace Sys2Proof.Machine

open Sys2Proof

/-- The number of an event's kind: its place in the event table, LINK_STATE being 0 (R197). -/
def eventKind : EventDetail → Nat
  | .linkState .. => 0 | .slotChange .. => 1 | .claimResult .. => 2 | .slotLost .. => 3
  | .messageDropped .. => 4 | .linkFault .. => 5 | .foreignRequest .. => 6 | .editRetired .. => 7
  | .editDrained => 8 | .gateChange .. => 9 | .copyRefused .. => 10 | .errorRate .. => 11
  | .muted .. => 12 | .searchHit .. => 13 | .chaseChange .. => 14 | .writeLate .. => 15
  | .ringOverrun .. => 16 | .modeChange .. => 17

/-- The set holding one kind. -/
def kindBit (k : Nat) : BitVec 18 := BitVec.ofNat 18 (2 ^ k)

/-- Raise an event: its kind joins the pending set and its detail replaces the latched one (R189). -/
def raise (e : EventDetail) (d : Device) : Device :=
  d.setEvents { d.events with
    pending := d.events.pending ||| kindBit (eventKind e)
    details := d.events.details.set (eventKind e) (some e) }

/-- ATTN (R191, R193): asserted while a kind is both pending and enabled, released while RESET is asserted. -/
def attn (d : Device) : Bool := !d.resetHeld && (d.events.pending &&& d.events.enabled) != 0

/-! ### Counters -/

/-- The value of a counter. -/
def CounterSet.value (c : CounterSet) : CounterName → Nat
  | .mended => c.mended | .recovered => c.recovered | .lost => c.lost | .concealed => c.concealed
  | .mutes => c.mutes

/-- Replace the value of a counter. -/
def CounterSet.withValue (c : CounterSet) (n : CounterName) (v : Nat) : CounterSet :=
  match n with
  | .mended => { c with mended := v } | .recovered => { c with recovered := v } | .lost => { c with lost := v }
  | .concealed => { c with concealed := v } | .mutes => { c with mutes := v }

/-- The counters of a stream. -/
def countersOf (s : Playback) (d : Device) : CounterSet :=
  match s with | .play => d.counters.play | .confidence => d.counters.conf

/-- Replace the counters of a stream. -/
def putCounters (s : Playback) (c : CounterSet) (d : Device) : Device :=
  match s with
  | .play => d.setCounters { d.counters with play := c }
  | .confidence => d.setCounters { d.counters with conf := c }

/-- The place of a counter's threshold in the configuration block (11). -/
def thresholdIndex (s : Playback) (n : CounterName) : Nat :=
  (match s with | .play => 0 | .confidence => 5) +
  (match n with | .mended => 0 | .recovered => 1 | .lost => 2 | .concealed => 3 | .mutes => 4)

/-- The threshold of a counter; 0 before the block is accepted (R81). -/
def threshold (s : Playback) (n : CounterName) (d : Device) : Nat :=
  (cfg d).thresholds.getD (thresholdIndex s n) 0

/-- A rise of a counter by `k` (R59, R80), saturating at 65535; a rise that reaches or passes a threshold that is
not 0 from below raises ERROR_RATE (R81). -/
def countUp (s : Playback) (n : CounterName) (k : Nat) (d : Device) : Device :=
  let before := (countersOf s d).value n
  let after := min 65535 (before + k)
  let t := threshold s n d
  let d1 := putCounters s ((countersOf s d).withValue n after) d
  if t ≠ 0 ∧ before < t ∧ t ≤ after then raise (.errorRate s n) d1 else d1

end Sys2Proof.Machine
end

