-- ==== Sys2Proof/Machine/Operands.lean ====
section
/-! DEFINITION. The layouts of chapter 11: numbers and enumerations in octets, status words, subcode records,
messages, and the arguments of the control port commands. -/

namespace Sys2Proof.Machine

open Sys2Proof

/-! ### Numbers (R197) -/

/-- A number in `n` octets, most significant first. -/
def octets : Nat → Nat → List Byte
  | 0, _ => []
  | n + 1, v => BitVec.ofNat 8 (v / 256 ^ n) :: octets n v

/-- A signed number in `n` octets, two's complement. -/
def signedOctets (n : Nat) (v : Int) : List Byte := octets n (v % (256 ^ n : Nat)).toNat

/-- The number in a row of octets. -/
def ofOctets (l : List Byte) : Nat := l.foldl (fun acc b => acc * 256 + b.toNat) 0

/-- The signed number in a row of octets. -/
def ofSignedOctets (l : List Byte) : Int :=
  let v := ofOctets l
  let m := 256 ^ l.length
  if v * 2 < m then (v : Int) else (v : Int) - m

/-- The octets `from_` to `from_ + n - 1` of a row. -/
def field (from_ n : Nat) (l : List Byte) : List Byte := (l.drop from_).take n

/-- One octet of a row as a number. -/
def octetAt (i : Nat) (l : List Byte) : Nat := (l.getD i 0).toNat

/-- A flag octet: 00h clear, 01h set (R197). -/
def flagOctet (b : Bool) : List Byte := [if b then 1 else 0]

/-- A flag argument; any other octet decodes to no value (R197). -/
def flagArg (v : Nat) : Option Bool := if v = 0 then some false else if v = 1 then some true else none

/-- A field that may be absent: a presence octet, then its `n` octets, zero where absent (R197). -/
def optionOctets (n : Nat) : Option (List Byte) → List Byte
  | some l => 1 :: l
  | none => 0 :: List.replicate n 0

/-- A number of `n` octets that may be absent. -/
def optionNumber (n : Nat) (v : Option Nat) : List Byte := optionOctets n (v.map (octets n))

/-- A signed number of `n` octets that may be absent. -/
def optionSigned (n : Nat) (v : Option Int) : List Byte := optionOctets n (v.map (signedOctets n))

/-- A set of event kinds in three octets (R197). -/
def eventSetOctets (s : BitVec 18) : List Byte := octets 3 s.toNat

/-- The set of event kinds in three octets; bits 18 to 23 are ignored (R197). -/
def eventSetArg (l : List Byte) : BitVec 18 := BitVec.ofNat 18 (ofOctets l)

/-! ### Enumerations (R197): numbered from 0 in the manual's order -/

def motionCode : Motion → Nat
  | .stopped => 0 | .playing => 1 | .windFwd => 2 | .windRev => 3

def motionArg : Nat → Option Motion
  | 0 => some .stopped | 1 => some .playing | 2 => some .windFwd | 3 => some .windRev | _ => none

def modeCode : Mode → Nat
  | .play => 0 | .record => 1 | .insert => 2

def modeArg : Nat → Option Mode
  | 0 => some .play | 1 => some .record | 2 => some .insert | _ => none

/-- The copy codes 0 to 5 (06, Status values). -/
def copyCode (c : CopyStatus) : Nat := copyRank c

/-- A copy code of a status word; 6 and 7 are read as UNKNOWN (R116, R196). -/
def copyOfCode : Nat → CopyStatus
  | 0 => .openCopy | 1 => .counted3 | 2 => .counted2 | 3 => .counted1 | 4 => .spent | _ => .unknown

def originCode : Origin → Nat
  | .line => 0 | .link => 1 | .silence => 2 | .insert => 3

def originArg : Nat → Option Origin
  | 0 => some .line | 1 => some .link | 2 => some .silence | 3 => some .insert | _ => none

def playbackCode : Playback → Nat
  | .play => 0 | .confidence => 1

def playbackArg : Nat → Option Playback
  | 0 => some .play | 1 => some .confidence | _ => none

def streamCode : TapeStream → Nat
  | .advance => 0 | .confidence => 1

def headCode : Head → Nat
  | .a => 0 | .b => 1

def tableCode : TableName → Nat
  | .fade => 0 | .kernel => 1

def tableArg : Nat → Option TableName
  | 0 => some .fade | 1 => some .kernel | _ => none

/-- Router sources: LINE_IN 0, TAPE 1, CONFIDENCE 2, LINK_RX 0 to 11 as 3 to 14, SILENCE 15 (R197). -/
def sourceCode : Source → Nat
  | .lineIn => 0 | .tape => 1 | .confidence => 2 | .linkRx k => 3 + k | .silence => 15

def sourceArg (v : Nat) : Option Source :=
  if v = 0 then some .lineIn else if v = 1 then some .tape else if v = 2 then some .confidence
  else if v ≤ 14 then some (.linkRx (v - 3)) else if v = 15 then some .silence else none

/-- Destinations: MAIN_OUT 0, MONITOR_OUT 1, RECORD_FEED 2, LINK_TX 0 to 11 as 3 to 14 (R197). -/
def destinationCode : Destination → Nat
  | .mainOut => 0 | .monitorOut => 1 | .recordFeed => 2 | .linkTx k => 3 + k

def destinationArg (v : Nat) : Option Destination :=
  if v = 0 then some .mainOut else if v = 1 then some .monitorOut else if v = 2 then some .recordFeed
  else if v ≤ 14 then some (.linkTx (v - 3)) else none

/-- A poster: 00h to 07h a station, 08h LOCAL (R197). -/
def posterCode : Poster → Nat
  | .station n => n | .localPort => 8

def posterArg (v : Nat) : Option Poster :=
  if v ≤ 7 then some (.station v) else if v = 8 then some .localPort else none

def playStateCode : PlayState → Nat
  | .stopped => 0 | .prefill => 1 | .running => 2

/-- Slot states: FREE 0 to CONF_OUT 10; ENCODED with stripe A written is 11 (R197). -/
def slotStateCode : Option Segment → Nat
  | none => 0
  | some r =>
    match r.state with
    | .gather => 1 | .fill => 2 | .decoded => 3 | .playout => 4 | .encoding => 5
    | .encoded => if r.writtenA then 11 else 6
    | .written => 7 | .verify => 8 | .checked => 9 | .confOut => 10

def recorderCode : RecorderState → Nat
  | .idle => 0 | .awaitOrigin => 1 | .filling => 2

def contextStateCode : ContextState → Nat
  | .clean => 0 | .holding => 1 | .fadingOut => 2 | .muted => 3 | .fadingIn => 4

def seqStateCode : SeqState → Nat
  | .idle => 0 | .waiting => 1 | .inserting => 2

def phaseCode : Phase → Nat
  | .fadeIn => 0 | .full => 1 | .fadeOut => 2

def decisionCode : Decision → Nat
  | .opened => 0 | .shut => 1

def attachmentCode : Attachment → Nat
  | .off => 0 | .listen => 1 | .align => 2 | .attached => 3

/-- The receiver's code, numbered in the order of the Link Port record's table (07): IDLE, SKIP, RECEIVING. R140 tells the
three in another order; which of the two R197 means is the model's choice (log 17). -/
def receiverCode : Receiver → Nat
  | .idle => 0 | .skip => 1 | .receiving => 2

def chaseStateCode : ChaseState → Nat
  | .off => 0 | .waiting => 1 | .seeking => 2 | .catching => 3 | .locked => 4 | .holdover => 5

def windCode : WindRequest → Nat
  | .none_ => 0 | .windFwd => 1 | .windRev => 2

def ownReleaseCode : OwnRelease → Nat
  | .none_ => 0 | .owed => 1 | .queued => 2

def driveCode : Drive → Nat
  | .driving => 0 | .stopped => 1

/-- The status octet of a report: 00h DONE to 09h BROKEN (11, Messages). -/
def editStatusCode : EditStatus → Nat
  | .done => 0 | .late => 1 | .refusedMode => 2 | .refusedState => 3 | .refusedCopy => 4 | .notLocked => 5
  | .cancelled => 6 | .skipped => 7 | .abandoned => 8 | .broken => 9

def responseByte : ResponseCode → Nat
  | .done => 0 | .busy => 1 | .refused => 2 | .badArg => 3 | .notConfigured => 4 | .full => 5 | .noneReady => 6
  | .notFound => 7 | .notCancellable => 8 | .queueFull => 9 | .duplicate => 10

/-- The reason octet of REFUSED (11, Commands and responses). -/
def reasonCode : Reason → Nat
  | .alreadyConfigured => 1 | .notPlaying => 2 | .wrongMode => 3 | .notAttached => 4 | .notOwner => 5
  | .notChasing => 6 | .tableEnd => 7

def linkCauseCode : LinkCause → Nat
  | .configured => 0 | .markerHeard => 1 | .founded => 2 | .aligned => 3 | .alignEarly => 4 | .alignMissing => 5
  | .misaligned => 6 | .echoFaults => 7 | .restart => 8

def slotCauseCode : SlotCause → Nat
  | .claimed => 0 | .released => 1 | .learned => 2 | .replaced => 3 | .timeout => 4 | .releaseLost => 5

def claimCauseCode : ClaimCause → Nat
  | .taken => 0 | .dropped => 1 | .detached => 2

def lostCauseCode : LostCause → Nat
  | .overruled => 0 | .doubleDrive => 1 | .detached => 2

def copyCauseCode : CopyCause → Nat
  | .feedSpent => 0 | .feedUnknown => 1 | .oldUnknown => 2

def chaseCauseCode : ChaseCause → Nat
  | .set => 0 | .offCommand => 1 | .far => 2 | .near => 3 | .locked => 4 | .slip => 5 | .newLead => 6
  | .leadFree => 7 | .leadSilent => 8 | .restart => 9 | .return_ => 10 | .expired => 11

def overrunStreamCode : OverrunStream → Nat
  | .advance => 0 | .confidence => 1 | .fill => 2

def overrunCauseCode : OverrunCause → Nat
  | .slotHeld => 0 | .queueFull => 1 | .noFillSlot => 2

def modeCauseCode : ModeCause → Nat
  | .motion => 0 | .deckReset => 1 | .numberLimit => 2

def counterCode : CounterName → Nat
  | .mended => 0 | .recovered => 1 | .lost => 2 | .concealed => 3 | .mutes => 4

def channelCode : Channel → Nat
  | .left => 0 | .right => 1

/-! ### Responses -/

/-- DONE with data. -/
def done (data : List Byte) : Response := { code := .done, data := data }

/-- A response with no data. -/
def answer (code : ResponseCode) : Response := { code := code, data := [] }

/-- REFUSED with its reason octet. -/
def refusedFor (r : Reason) : Response := { code := .refused, data := octets 1 (reasonCode r) }

/-- The response frame as octets: code, two length octets, data (R183). -/
def responseFrame (r : Response) : List Byte := octets 1 (responseByte r.code) ++ octets 2 r.data.length ++ r.data

/-! ### Event details (R189, R190): the values in the order the event table names them -/

/-- The detail's octets. Where a value may be absent it has a presence octet (R197, log 17). -/
def detailOctets : EventDetail → List Byte
  | .linkState st c => octets 1 (attachmentCode st) ++ octets 1 (linkCauseCode c)
  | .slotChange k owner c =>
      octets 1 k ++ flagOctet owner.isSome ++ optionNumber 1 owner ++ octets 1 (slotCauseCode c)
  | .claimResult k c => octets 1 k ++ flagOctet c.isSome ++ optionNumber 1 (c.map claimCauseCode)
  | .slotLost k c => octets 1 k ++ octets 1 (lostCauseCode c)
  | .messageDropped kind dest => octets 1 kind ++ octets 1 dest
  | .linkFault kind => octets 1 kind ++ octets 1 0
  | .foreignRequest kind source => octets 1 kind ++ octets 1 source
  | .editRetired place poster tag status =>
      octets 1 place ++ octets 1 (posterCode poster) ++ [tag] ++ octets 1 (editStatusCode status)
  | .editDrained => []
  | .gateChange dec n m => octets 1 (decisionCode dec) ++ octets 3 n ++ octets 1 (modeCode m)
  | .copyRefused n m c => octets 3 n ++ octets 1 (modeCode m) ++ octets 1 (copyCauseCode c)
  | .errorRate s c => octets 1 (playbackCode s) ++ octets 1 (counterCode c)
  | .muted s ch n => octets 1 (playbackCode s) ++ octets 1 (channelCode ch) ++ octets 3 n
  | .searchHit p n => octets 1 p ++ octets 3 n
  | .chaseChange st c e => octets 1 (chaseStateCode st) ++ octets 1 (chaseCauseCode c) ++ optionSigned 5 e
  | .writeLate n => octets 3 n
  | .ringOverrun s n h c =>
      octets 1 (overrunStreamCode s) ++ octets 3 n ++ optionNumber 1 (h.map headCode) ++
      octets 1 (overrunCauseCode c)
  | .modeChange m c => octets 1 (modeCode m) ++ octets 1 (modeCauseCode c)

/-- The length of the detail of each kind, for a kind with no detail latched (R197, Absent values). -/
def detailLength (kind : Nat) : Nat :=
  [2, 5, 4, 2, 2, 2, 2, 4, 0, 5, 5, 2, 5, 4, 8, 3, 7, 2].getD kind 0

/-! ### Status words (R131, R165, R196) -/

/-- The eight octets of a status word sum to 0 modulo 256. -/
def octetSum (l : List Byte) : Nat := (l.foldl (fun acc b => acc + b.toNat) 0) % 256

/-- The check octet that brings the octets it protects to 0 modulo 256 (00, Check octets). -/
def checkOctet (l : List Byte) : Byte := BitVec.ofNat 8 (256 - octetSum l)

/-- The fields of a status word. -/
structure StatusWord where
  owner : Nat
  copy : CopyStatus
  motion : Motion
  position : Position
  deriving DecidableEq, Repr

/-- `n` bits of a 64-bit word, bit `first` being the first carried (11, The status word). -/
def wordField (first n : Nat) (w : BitVec 64) : Nat := (w.toNat >>> (64 - first - n)) % 2 ^ n

/-- A status word is valid if its octets sum to 0 and its offset is 479 or less (R131, R196). -/
def validWord (w : BitVec 64) : Bool := octetSum (octets 8 w.toNat) == 0 && decide (wordField 32 9 w ≤ 479)

/-- The fields of a status word, in bit order; the 15 bits after the offset are ignored (R131). -/
def readWord (w : BitVec 64) : StatusWord :=
  { owner := wordField 0 3 w
    copy := copyOfCode (wordField 3 3 w)
    motion := (motionArg (wordField 6 2 w)).getD .stopped
    position := { segment := wordField 8 24 w, offset := wordField 32 9 w } }

/-- The status word of the fields (R165): its first seven octets, then the check octet. -/
def makeWord (x : StatusWord) : BitVec 64 :=
  let v := (((x.owner * 8 + copyCode x.copy) * 4 + motionCode x.motion) * 2 ^ 24 + x.position.segment) * 2 ^ 9 +
    x.position.offset
  let first := octets 7 (v * 2 ^ 15)
  BitVec.ofNat 64 (ofOctets (first ++ [checkOctet first]))

/-- Bit `f` of a status word, as driven: a 0 bit is dominant (R131). -/
def wordBit (f : Nat) (w : BitVec 64) : Bool := wordField f 1 w == 0

/-! ### Subcode records (11, Tape blocks; R196) -/

/-- The 15 octets of a subcode record. -/
def subcodeOctets (x : Subcode) : List Byte :=
  octets 3 x.segment ++ octets 1 (x.program.getD 255) ++
  octets 1 ((if x.indexMark then 128 else 0) + (if x.refused then 64 else 0) +
    (if x.editOffset.isSome then 32 else 0)) ++
  octets 2 (x.editOffset.getD 0) ++ octets 1 (copyCode x.copy) ++ octets 1 (originCode x.origin) ++
  octets 1 x.wordLength ++ octets 1 x.station ++ x.label

/-- The field judgement of R196 on a subcode record: absent where a field lies outside its layout. -/
def readSubcode (l : List Byte) : Option Subcode :=
  let program := octetAt 3 l
  let flags := l.getD 4 0
  let offset := ofOctets (field 5 2 l)
  let copy := octetAt 7 l
  let length := octetAt 9 l
  let station := octetAt 10 l
  match originArg (octetAt 8 l) with
  | none => none
  | some origin =>
    if 99 < program ∧ program ≠ 255 then none
    else if 4 < copy then none
    else if length ≠ 16 ∧ length ≠ 20 then none
    else if 7 < station then none
    else if flags.getLsbD 5 ∧ 479 < offset then none
    else some
      { segment := ofOctets (field 0 3 l)
        program := if program = 255 then none else some program
        indexMark := flags.getLsbD 7
        editOffset := if flags.getLsbD 5 then some offset else none
        copy := copyOfCode copy
        refused := flags.getLsbD 6
        origin := origin
        wordLength := length
        station := station
        label := field 11 4 l }

/-! ### Messages on the link (R139) -/

/-- `n` bits of a number as driven, most significant first; a 0 bit is dominant. -/
def driveBits : Nat → Nat → List Bool
  | 0, _ => []
  | n + 1, v => (v / 2 ^ n % 2 == 0) :: driveBits n v

/-- The number a row of read bits carries; a dominant bit is 0. -/
def readBits (l : List Bool) : Nat := l.foldl (fun acc b => acc * 2 + (if b then 0 else 1)) 0

/-- The octets a message's check protects (R139). -/
def protectedOctets (kind dest source : Nat) (body : List Byte) : List Byte :=
  [BitVec.ofNat 8 kind, BitVec.ofNat 8 dest, BitVec.ofNat 8 (source * 32 + body.length)] ++ body

/-- The bits of a message from this station, start bit first (R139). -/
def messageBits (station : Nat) (m : Queued) : List Bool :=
  [true] ++ driveBits 5 m.kind ++ driveBits 8 m.destination ++ driveBits 3 station ++ driveBits 5 m.body.length ++
  (m.body.flatMap (fun b => driveBits 8 b.toNat)) ++
  driveBits 8 (checkOctet (protectedOctets m.kind m.destination station m.body)).toNat

/-- `n` bits from place `i` of a row, as a number. -/
def bitsAt (i n : Nat) (l : List Bool) : Nat := readBits ((l.drop i).take n)

/-- The body octets of the bits of a message, `n` of them. -/
def bodyOctets (bits : List Bool) : Nat → List Byte
  | 0 => []
  | n + 1 => bodyOctets bits n ++ [BitVec.ofNat 8 (bitsAt (22 + 8 * n) 8 bits)]

/-- What stands in the bits of a whole message: kind, and destination, source and body. -/
def readMessage (bits : List Bool) : Nat × LinkMessage :=
  (bitsAt 1 5 bits,
   { destination := bitsAt 6 8 bits, source := bitsAt 14 3 bits, body := bodyOctets bits (bitsAt 17 5 bits) })

/-- The check of R139 on the bits of a whole message. -/
def messagePasses (bits : List Bool) : Bool :=
  let m := readMessage bits
  octetSum (protectedOctets m.1 m.2.destination m.2.source m.2.body ++
    [BitVec.ofNat 8 (bitsAt (22 + 8 * m.2.body.length) 8 bits)]) == 0

/-! ### Edit posts (R85; 11, Messages) -/

/-- The nine octets of an edit post, or absent where a field is one of the BAD_ARG cases of R85. -/
def readPost (l : List Byte) : Option EditPost :=
  let action := octetAt 1 l / 16
  let kind := octetAt 1 l % 16
  let flags := octetAt 2 l
  let chained := decide (128 ≤ flags)
  let fadeCode := flags % 8
  let pattern := octetAt 3 l
  let offset := ofOctets (field 7 2 l)
  let make (a : Action) (t : Trigger) : EditPost :=
    { tag := l.getD 0 0, action := a, chained := chained, trigger := t, fadeCode := fadeCode
      shape := flags / 16 % 4, requiresLock := decide (flags / 64 % 2 = 1), octets := l }
  let actionOf : Option Action :=
    if action = 0 then some .punchIn else if action = 1 then some .punchOut
    else if action = 2 then some .mark else none
  let triggerOf : Option Trigger :=
    if kind = 0 then some (.atPosition (ofOctets (field 4 3 l)) offset)
    else if kind = 1 then (if 3 < pattern then none else some (.search pattern offset))
    else if kind = 2 then some (.nextSegment offset) else none
  match actionOf, triggerOf with
  | some a, some t =>
    if chained = true ∧ a ≠ .punchIn then none
    else if 479 < offset then none
    else if 5 < fadeCode then none
    else some (make a t)
  | _, _ => none

/-! ### The configuration block (11) -/

def linkModeArg : Nat → Option LinkMode
  | 0 => some .off | 1 => some .normal | 2 => some .loop | _ => none

def requantArg : Nat → Option Requant
  | 0 => some .truncate | 1 => some .round | 2 => some .triangular | 3 => some .shaped | _ => none

/-- Original status: OPEN, COUNTED-3, COUNTED-2, COUNTED-1 as 0 to 3 (11). -/
def originalArg : Nat → Option CopyStatus
  | 0 => some .openCopy | 1 => some .counted3 | 2 => some .counted2 | 3 => some .counted1 | _ => none

/-- The thresholds of the block: ten numbers of two octets from octet 18. -/
def readThresholds (l : List Byte) : List Nat :=
  (List.range 10).map (fun i => ofOctets (field (18 + 2 * i) 2 l))

/-- The configuration block, or absent where a field is out of its range (R185). -/
def readConfiguration (l : List Byte) : Option Configuration :=
  match linkModeArg (octetAt 3 l), requantArg (octetAt 5 l), originalArg (octetAt 6 l) with
  | some mode, some requant, some original =>
    if octetAt 0 l ≤ 7 ∧ (octetAt 4 l = 16 ∨ octetAt 4 l = 20) ∧
       (3 ≤ octetAt 7 l ∧ octetAt 7 l ≤ 6) ∧ (1 ≤ octetAt 8 l ∧ octetAt 8 l ≤ 4) ∧
       (1 ≤ octetAt 9 l ∧ octetAt 9 l ≤ 4) ∧ (8 ≤ octetAt 10 l ∧ octetAt 10 l ≤ 64) ∧
       (4 ≤ octetAt 11 l ∧ octetAt 11 l ≤ 64) ∧ octetAt 12 l ≤ 3 then
      some
        { station := octetAt 0 l, groups := l.getD 1 0, authority := l.getD 2 0, linkMode := mode
          wordLength := octetAt 4 l, requant := requant, original := original, advance := octetAt 7 l
          confidence := octetAt 8 l, prefill := octetAt 9 l, holdLimit := octetAt 10 l
          recoveryCount := octetAt 11 l, kernel := octetAt 12 l, verifyLimit := octetAt 13 l
          label := field 14 4 l, thresholds := readThresholds l }
    else none
  | _, _, _ => none

end Sys2Proof.Machine
end

