-- ==== Sys2Proof/Machine/Reports.lean ====
section
/-! DEFINITION. The outgoing queue's traffic: reports of edit entries (R86, R88 to R90), owed releases (R163), and the
filling of a place that frees (R150, R151). -/

namespace Sys2Proof.Machine

open Sys2Proof

/-! ### Reports of entries -/

/-- The status a fired entry retires with: its outcome (R91). -/
def statusOf : EditOutcome → EditStatus
  | .done => .done | .cancelled => .cancelled | .abandoned => .abandoned | .refusedCopy => .refusedCopy
  | .broken => .broken

/-- The flag octet of a report (11, Messages, EDIT_REPORT octet 9). -/
def resultFlags (r : Option EditResult) : Nat :=
  match r with
  | none => 0
  | some r =>
    (if r.weak then 1 else 0) + (if r.unverified then 2 else 0) + (if r.edgeConcealed then 4 else 0) +
    (if r.lockLost then 8 else 0) + (if r.first.isSome then 16 else 0) + (if r.last.isSome then 32 else 0) + 64

/-- Octets 2 to 9 of a report: first segment, last segment, verify tally, flags; zero where absent. -/
def resultOctets (r : Option EditResult) : List Byte :=
  octets 3 ((r.bind (·.first)).getD 0) ++ octets 3 ((r.bind (·.last)).getD 0) ++
  octets 1 ((r.map (·.tally)).getD 0) ++ octets 1 (resultFlags r)

/-- The body of an entry's EDIT_REPORT (R89). -/
def reportBody (e : Entry) : List Byte :=
  [e.post.tag] ++ octets 1 ((e.status.map editStatusCode).getD 0) ++ resultOctets e.result

/-- The body of a refusal report: the tag, the refusal in place of a status, and no result (R86). -/
def refusalBody (tag : Byte) (refusal : Nat) : List Byte := [tag] ++ octets 1 refusal ++ resultOctets none

/-- Form the report of a retired link-posted entry and let it join the queue (R89). -/
def queueReport (p : Nat) (d : Device) : Device :=
  match entryAt p d with
  | some e =>
    match e.poster with
    | .station n =>
      updateEntry p (fun x => { x with report := .queued })
        (setQueue (joinQueue (newMessage kindEditReport n (reportBody e) (.report p)) d.link.queue) d)
    | .localPort => d
  | none => d

/-- The offer at retirement: queued, or waiting where the queue does not take it (R89, R150). -/
def offerReport (p : Nat) (d : Device) : Device :=
  match (entryAt p d).map Entry.poster with
  | some (.station _) =>
    if queueTakes d then queueReport p d else updateEntry p (fun e => { e with report := .waiting }) d
  | _ => d

/-- The WAITING entry nearest the tail (R89). -/
def waitingReport (d : Device) : Option Nat := firstPlace (fun e => e.report == .waiting) d

/-! ### Emptying at the tail -/

/-- Empty the tail place and advance the tail (R84). -/
def emptyTail (d : Device) : Device :=
  d.setEdit { d.edit with places := d.edit.places.set d.edit.tail none, tail := (d.edit.tail + 1) % 32 }

/-- The tail entry is RETIRED and its report is SENT (R90). -/
def tailDone (d : Device) : Bool :=
  match entryAt d.edit.tail d with
  | some e => e.state == .retired && e.report == .sent
  | none => false

/-- Empty the tail while its report is SENT, testing again at each new tail (R90). -/
def emptySentTail : Nat → Device → Device
  | 0, d => d
  | n + 1, d => if tailDone d then emptySentTail n (emptyTail d) else d

/-- The report's message left the queue by completing or by being dropped (R89), with the test of R90. -/
def reportSent (p : Nat) (d : Device) : Device :=
  emptySentTail 32 (updateEntry p (fun e => { e with report := .sent }) d)

/-! ### Owed releases -/

/-- The lowest link slot whose own release is OWED (R159). -/
def owedSlot (d : Device) : Option Nat :=
  (List.range 12).find? (fun k => (slotEntry k d).ownRelease == .owed)

/-- A release of slot `k` joins the queue and the own release becomes QUEUED. -/
def queueRelease (k : Nat) (origin : MessageOrigin) (d : Device) : Device :=
  putSlotEntry k { slotEntry k d with ownRelease := .queued }
    (setQueue (joinQueue (newMessage kindSlotRelease 255 [BitVec.ofNat 8 k] origin) d.link.queue) d)

/-! ### Filling -/

/-- Fill one free place: the lowest owed release, else the WAITING report nearest the tail (R151). -/
def fillPlace (d : Device) : Device :=
  if queueTakes d then
    match owedSlot d with
    | some k => queueRelease k .owedRelease d
    | none =>
      match waitingReport d with
      | some p => queueReport p d
      | none => d
  else d

/-- Fill every free place in turn, as on entering ATTACHED (R151). -/
def fillPlaces : Nat → Device → Device
  | 0, d => d
  | n + 1, d => fillPlaces n (fillPlace d)

/-- Withdraw the first message that satisfies `p`, at once, even from the link; the place that frees is filled
(R150, R151). -/
def withdrawFirst (p : Queued → Bool) (d : Device) : Device :=
  if d.link.queue.any p then fillPlace (setQueue (withoutFirst p d.link.queue) d) else d

/-- QUEUE_PLACE_FILL (R151): one free place is filled. -/
def execQueuePlaceFill (s : State) : Host.Outcome State Fault Refusal :=
  .next { s with dev := fillPlace s.dev }

end Sys2Proof.Machine
end

