-- ==== Sys2Proof/Machine/Edit.lean ====
section
/-! DEFINITION. The Edit Ring and the sequencer (05): retirement, chains, targets and lateness, the end of an
insertion, the freeing of linked slots, and the causes that cut an edit short. -/

namespace Sys2Proof.Machine

open Sys2Proof

/-! ### Retirement -/

/-- Retire the entry at a place with a status: EDIT_RETIRED is raised and the report offered (R91, R89). -/
def retire (p : Nat) (st : EditStatus) (d : Device) : Device :=
  match entryAt p d with
  | some e =>
    offerReport p (raise (.editRetired p e.poster e.post.tag st)
      (putEntry p { e with state := .retired, status := some st, outcome := none } d))
  | none => d

/-- The entry is a PUNCH_IN with the chained flag set. -/
def isChainedIn (e : Entry) : Bool := e.post.chained && e.post.action == .punchIn

/-- The chained PUNCH_OUT among the places after a chained PUNCH_IN, given the poster (R87). -/
def scanChain (poster : Poster) (d : Device) : List Nat → Option Nat
  | [] => none
  | i :: rest =>
    match entryAt i d with
    | none => scanChain poster d rest
    | some e =>
      if e.poster ≠ poster then scanChain poster d rest
      else if isChainedIn e then none
      else if e.post.action = .punchOut ∧ e.state = .pending ∧ e.fired = false then some i
      else scanChain poster d rest

/-- The places after a place, in ring order. -/
def placesAfter (p : Nat) (d : Device) : List Nat := ((placesInOrder d).dropWhile (fun i => i != p)).drop 1

/-- The chained PUNCH_OUT of the entry at a place, where it has one now (R87). -/
def chainedOut (p : Nat) (d : Device) : Option Nat :=
  match entryAt p d with
  | some e => if isChainedIn e then scanChain e.poster d (placesAfter p d) else none
  | none => none

/-- The entry at a place is the chained PUNCH_OUT of some PUNCH_IN. -/
def isChainedOut (p : Nat) (d : Device) : Bool :=
  (placesInOrder d).any (fun i => chainedOut i d == some p)

/-- The chained PUNCH_OUT of a place retires SKIPPED (R87). -/
def skipChain (p : Nat) (d : Device) : Device :=
  match chainedOut p d with
  | some o => retire o .skipped d
  | none => d

/-- Retire an entry that has not fired, then its chain (R87; the order is the model's choice, log 31). -/
def retireUnfired (p : Nat) (st : EditStatus) (d : Device) : Device := skipChain p (retire p st d)

/-! ### The sequencer's state, targets and lateness -/

/-- Re-derive the sequencer's state; becoming IDLE raises EDIT_DRAINED (R92). -/
def rederive (d : Device) : Device :=
  let next : SeqState :=
    if d.edit.insertion.isSome then .inserting
    else if (headOfWork d).isSome then .waiting else .idle
  let d1 := d.setEdit { d.edit with state := next }
  if next = .idle ∧ d.edit.state ≠ .idle then raise .editDrained d1 else d1

/-- The position of the next pair the play playout delivers, while RUNNING; absent where no pair follows. -/
def nextPair (d : Device) : Option Position :=
  let p := d.ring.play.position
  match d.ring.play.state with
  | .running =>
    if p.offset < 480 then some p
    else if p.segment < lastSegment then some { segment := p.segment + 1, offset := 0 } else none
  | _ => none

/-- The target of the entry at a place. -/
def targetOf (p : Nat) (d : Device) : Option Position := (entryAt p d).bind (·.target)

/-- A NEXT head of work without a target takes the segment after the next pair's (R93, log 15). -/
def resolveNext (p : Nat) (pair : Position) (d : Device) : Device :=
  updateEntry p (fun e =>
    match e.target, e.post.trigger with
    | none, .nextSegment o =>
      if pair.segment < lastSegment then { e with target := some { segment := pair.segment + 1, offset := o } }
      else e
    | _, _ => e) d

/-- While the playout is RUNNING: the head of work takes a NEXT target, and a head behind the next pair retires LATE,
each new head in turn (R93, R94). -/
def settleHead : Nat → Device → Device
  | 0, d => d
  | n + 1, d =>
    match headOfWork d, nextPair d with
    | some h, some pair =>
      let d1 := resolveNext h pair d
      match targetOf h d1 with
      | some t => if sampleCount t < sampleCount pair then settleHead n (retireUnfired h .late d1) else d1
      | none => d1
    | _, _ => d

/-- The head of work is looked at again and the state re-derived. -/
def reconsider (d : Device) : Device := rederive (settleHead 33 d)

/-! ### The end of an insertion, and the test of R105 -/

/-- The outcome of the entry at a place. -/
def outcomeOf (p : Nat) (d : Device) : EditOutcome := ((entryAt p d).bind (·.outcome)).getD .done

/-- Change an outcome that is still DONE (R91). -/
def changeOutcome (p : Nat) (o : EditOutcome) (d : Device) : Device :=
  updateEntry p (fun e => if e.outcome = some .done then { e with outcome := some o } else e) d

/-- The in-flight count of the entry at a place. -/
def inFlightOf (p : Nat) (d : Device) : Nat := (((entryAt p d).bind (·.result)).map (·.inFlight)).getD 0

/-- The test of R105 for the entry at a place. -/
def retireTest (p : Nat) (d : Device) : Device :=
  match entryAt p d with
  | some e =>
    if e.state = .verifying ∧ inFlightOf p d = 0 ∧ touchNames p d = false ∧ d.edit.insertion ≠ some p then
      retire p (statusOf (outcomeOf p d)) d
    else d
  | none => d

/-- The test of R105 for every entry, as at a boundary of the play playout, in ring order from the tail (the model's
choice, log 11). -/
def retireTests (d : Device) : Device := (placesInOrder d).foldl (fun acc p => retireTest p acc) d

/-- The fired PUNCH_OUT whose fade-out runs. -/
def firedOut (d : Device) : Option Nat := firstPlace (fun e => e.state == .pending && e.fired) d

/-- The sequencer with no insertion: gain 0, phase, fade and insertion entry absent. -/
def withoutInsertion (e : Edit) : Edit := { e with phase := none, insertion := none, gain := 0, fade := none }

/-- The end of an insertion (R98): `own` where its fade-out or butt ended it, clear where it is dropped. The fired
PUNCH_OUT retires before the test of R105 for the entry itself (the model's choice, log 31). -/
def endInsertion (own : Bool) (d : Device) : Device :=
  match d.edit.insertion with
  | none => d
  | some p =>
    let status := if own then .done else statusOf (outcomeOf p d)
    let d1 := updateEntry p (fun e => { e with state := .verifying }) (d.setEdit (withoutInsertion d.edit))
    let d2 := match firedOut d1 with
      | some o => retire o status d1
      | none => d1
    retireTest p (rederive d2)

/-- Drop the insertion that runs: its chained PUNCH_OUT retires SKIPPED and the insertion ends at once (R98, R107, R108,
R109). The chained PUNCH_OUT retires first, then the retirements of the drop (the model's choice, log 31). -/
def dropInsertion (d : Device) : Device :=
  match d.edit.insertion with
  | none => d
  | some p => endInsertion false (reconsider (skipChain p d))

/-- An insertion broken at a segment with no slot (R109). -/
def breakInsertion (d : Device) : Device :=
  match d.edit.insertion with
  | none => d
  | some p => dropInsertion (changeOutcome p .broken d)

/-! ### Freeing of slots -/

/-- The slot of segment `n` becomes FREE; an edit link lowers its entry's in-flight count, with the test of R105 (R2). -/
def freeSlot (n : Nat) (d : Device) : Device :=
  match held n d with
  | none => d
  | some r =>
    let d1 := clearSlot n d
    match r.editLink with
    | none => d1
    | some p => retireTest p (updateResult p (fun x => { x with inFlight := x.inFlight - 1 }) d1)

/-- Free each of a row of segments. -/
def freeSlots (l : List Nat) (d : Device) : Device := l.foldl (fun acc n => freeSlot n acc) d

/-- Change the record of segment `n`, where its slot holds it. -/
def updateSegment (n : Nat) (f : Segment → Segment) (d : Device) : Device :=
  match held n d with
  | some r => putSegment { f r with number := r.number } d
  | none => d

/-- The five steps of R108 for segment `n` linked to place `p`. -/
def tellWriteLate (n p : Nat) (d : Device) : Device :=
  let d1 := changeOutcome p .broken d
  let d2 := updateResult p (fun x =>
    { x with last := if (x.first.map (fun f => decide (f < n))).getD false then some (n - 1) else none }) d1
  let d3 := freeSlots (segmentsWhere (fun r => r.editLink == some p && decide (n < r.number) && !r.writtenA) d2) d2
  let d4 := if d3.edit.insertion = some p then dropInsertion d3 else d3
  if touchNames p d4 then setTouch { d4.edit.touch with spoiled := true } d4 else d4

/-- A write late of segment `n`: WRITE_LATE is raised, the write-late flag set, and the linked entry told where no write
late of this record has told it before (R7, R33, R38, R40, R108; log 12). The record stays in its slot. -/
def writeLate (n : Nat) (d : Device) : Device :=
  match held n d with
  | none => d
  | some r =>
    let d1 := raise (.writeLate n) (putSegment { r with writeLate := true } d)
    match r.editLink with
    | some p => if r.writeLate then d1 else tellWriteLate n p d1
    | none => d1

/-! ### Posting, cancellation, hits, lock -/

/-- The place of the non-EMPTY entry with a poster and tag (R85, R106). -/
def placeOf (poster : Poster) (tag : Byte) (d : Device) : Option Nat :=
  firstPlace (fun e => e.poster == poster && e.post.tag == tag) d

/-- The three outcomes of a post (R85). -/
inductive PostResult where
  | placed (place : Nat)
  | duplicate
  | full
  deriving DecidableEq, Repr

/-- A post placed at the head (R85). -/
def newEntry (poster : Poster) (post : EditPost) : Entry :=
  { state := .pending, poster := poster, post := post
    target := match post.trigger with
      | .atPosition s o => some { segment := s, offset := o }
      | _ => none
    fired := false, outcome := none, status := none, result := none
    report := match poster with
      | .localPort => .none_
      | .station _ => .notDue }

/-- The checks DUPLICATE and FULL, and the placing of a post (R85, R86). -/
def placePost (poster : Poster) (post : EditPost) (d : Device) : Device × PostResult :=
  match placeOf poster post.tag d with
  | some _ => (d, .duplicate)
  | none =>
    match entryAt d.edit.head d with
    | some _ => (d, .full)
    | none =>
      let p := d.edit.head
      let d1 := putEntry p (newEntry poster post) d
      (reconsider (rederive (d1.setEdit { d1.edit with head := (p + 1) % 32 })), .placed p)

/-- The three answers to a cancellation (R106). -/
inductive CancelResult where
  | done
  | notFound
  | notCancellable
  deriving DecidableEq, Repr

/-- A cancellation's fade-out of 32 samples, with the entry's own shape, from the current gain (R106). -/
def startCancelFade (shape : Nat) (d : Device) : Device :=
  d.setEdit { d.edit with
    phase := some .fadeOut
    fade := some { length := 32, shape := shape, step := 0, start := d.edit.gain } }

/-- EDIT_CANCEL of the entry with a poster and tag (R106). -/
def cancelEntry (poster : Poster) (tag : Byte) (d : Device) : Device × CancelResult :=
  match placeOf poster tag d with
  | none => (d, .notFound)
  | some p =>
    match entryAt p d with
    | none => (d, .notFound)
    | some e =>
      match e.state with
      | .pending =>
        if e.fired then (d, .notCancellable) else (reconsider (retireUnfired p .cancelled d), .done)
      | .inserting =>
        if d.edit.phase = some .fadeOut then (d, .notCancellable)
        else
          (startCancelFade e.post.shape (reconsider (skipChain p (changeOutcome p .cancelled d))), .done)
      | .verifying => (d, .notCancellable)
      | .retired => (d, .notCancellable)

/-- A hit of a pattern at segment `s` gives every PENDING SEARCH entry on it without a target its target (R93). -/
def takeHit (pattern s : Nat) (e : Entry) : Entry :=
  match e.post.trigger, e.target with
  | .search q o, none =>
    if q = pattern ∧ e.state = .pending ∧ s < lastSegment then
      { e with target := some { segment := s + 1, offset := o } }
    else e
  | _, _ => e

/-- The hit handed to the Edit Sequencer (R63, R93), with the test of R94. -/
def searchHit (pattern s : Nat) (d : Device) : Device :=
  reconsider (d.setEdit { d.edit with places := d.edit.places.map (fun o => o.map (takeHit pattern s)) })

/-- A leaving of LOCKED flags the INSERTING entry (R181, R102). -/
def lockLost (d : Device) : Device :=
  match d.edit.insertion with
  | some p => updateResult p (fun r => { r with lockLost := true }) d
  | none => d

/-! ### Flushes -/

/-- Every in-flight count becomes 0 (R18). -/
def zeroInFlight (d : Device) : Device :=
  d.setEdit { d.edit with places := d.edit.places.map (fun o =>
    o.map (fun e => { e with result := e.result.map (fun r => { r with inFlight := 0 }) })) }

/-- The INSERTING entry at motion leaving PLAYING: ABANDONED, or CANCELLED where it was cancelled (R110). -/
def abandonedStatus (p : Nat) (d : Device) : EditStatus :=
  if outcomeOf p d = .cancelled then .cancelled else .abandoned

/-- A VERIFYING entry at motion leaving PLAYING (R110). -/
def abandonVerifying (d : Device) (p : Nat) : Device :=
  match entryAt p d with
  | some e =>
    if e.state = .verifying then
      retire p (statusOf (outcomeOf p d)) (updateResult p (fun r => { r with unverified := true }) d)
    else d
  | none => d

/-- Motion leaving PLAYING, at the Edit Sequencer (R110). The INSERTING entry retires first, then a fired PUNCH_OUT (the
model's choice, log 31), then the VERIFYING entries in ring order from the tail (the model's choice, log 11). -/
def abandonEdits (d : Device) : Device :=
  let d0 := setTouch Touch.empty d
  let d1 := match d0.edit.insertion with
    | some p =>
      let st := abandonedStatus p d0
      let d2 := retire p st d0
      match firedOut d2 with
      | some o => retire o st d2
      | none => d2
    | none => d0
  let d3 := (placesInOrder d1).foldl abandonVerifying d1
  rederive (d3.setEdit (withoutInsertion d3.edit))

/-- DECK_RESET's retirement of one place. -/
def cancelPlace (d : Device) (p : Nat) : Device :=
  match entryAt p d with
  | some e => if e.state = .retired then d else retire p .cancelled d
  | none => d

/-- DECK_RESET at the Edit Ring (R111). -/
def cancelEdits (d : Device) : Device :=
  let d1 := (placesInOrder d).foldl cancelPlace d
  let d2 := d1.setEdit { withoutInsertion d1.edit with touch := Touch.empty, state := .idle }
  if d.edit.state = .idle then d2 else raise .editDrained d2

/-! ### Reaping -/

/-- EDIT_REAP's data (11, Reads). -/
def reapData (p : Nat) (e : Entry) : List Byte :=
  octets 1 p ++ octets 1 (posterCode e.poster) ++ e.post.octets ++
  optionOctets 5 (e.target.map (fun t => octets 3 t.segment ++ octets 2 t.offset)) ++
  octets 1 ((e.status.map editStatusCode).getD 0) ++ resultOctets e.result

/-- The queued message is the report of a place. -/
def isReportOf (p : Nat) (m : Queued) : Bool := m.origin == .report p

/-- A reaped entry's report: detached where its message is on the link, withdrawn where it is not (R88). -/
def releaseReport (p : Nat) (d : Device) : Device :=
  if d.link.queue.any (fun m => isReportOf p m && m.sent.isSome) then
    setQueue (d.link.queue.map (fun m => if isReportOf p m then { m with origin := .detachedReport } else m)) d
  else withdrawFirst (isReportOf p) d

/-- EDIT_REAP (R88), with the tail test of R90. -/
def reapTail (d : Device) : Device × Response :=
  match entryAt d.edit.tail d with
  | some e =>
    if e.state = .retired then
      (releaseReport d.edit.tail (emptySentTail 32 (emptyTail d)), done (reapData d.edit.tail e))
    else (d, answer .noneReady)
  | none => (d, answer .noneReady)

end Sys2Proof.Machine
end

