-- ==== Sys2Proof/Machine/Chase.lean ====
section
/-! DEFINITION. The Chase Unit (09). -/

namespace Sys2Proof.Machine

open Sys2Proof

/-- The greatest magnitude of the offset (09, The chase record). -/
def offsetLimit : Int := 8053063679

/-- A number limited to a magnitude, keeping its sign. -/
def limitTo (m x : Int) : Int := max (-m) (min m x)

/-- The three states a running chase can lose its lead from (R178). -/
def chaseRunning (c : Chase) : Bool := c.state == .seeking || c.state == .catching || c.state == .locked

/-- A change of the chase record with its CHASE_CHANGE; a leaving of LOCKED reaches the Edit Sequencer (R181, R182). -/
def moveChase (c : Chase) (cause : ChaseCause) (error : Option Int) (d : Device) : Device :=
  let d1 := if d.chase.state = .locked ∧ c.state ≠ .locked then lockLost d else d
  raise (.chaseChange c.state cause error) (d1.setChase c)

/-! ### Own position (R165, R174) -/

/-- This station's own position: the play playout's while RUNNING, else the advance expectation's segment, else 0. With
the end of segment 16,777,215 due the playout is still RUNNING and no pair follows: the segment number stands and the
offset is the free value of `positionAfterLast` (the model's choice, log 8). -/
def ownPosition (d : Device) : Position :=
  if d.ring.play.state = .running then normalPosition d.ring.play.position
  else
    match d.decoder.advance with
    | some e => { segment := e.segment, offset := 0 }
    | none => { segment := 0, offset := 0 }

/-- The own latch at a frame 0 while ATTACHED (R174). -/
def latchOwn (d : Device) : Device :=
  d.setChase { d.chase with ownLatch := some (sampleCount (ownPosition d)) }

/-- The lead position at this period (R174). -/
def leadPosition (c : Chase) : Option Nat :=
  c.leadWord.map (fun w =>
    sampleCount w.position + (if w.motion = .playing then w.age else 0))

/-! ### Requests (R172, R173) -/

/-- The record of a new chase (R172); the own latch stands. -/
def newChase (slot : Nat) (offset : Int) (c : Chase) : Chase :=
  { Chase.initial with state := .waiting, leadSlot := some slot, offset := some offset, ownLatch := c.ownLatch }

/-- CHASE_SET with its six octets, from either form; absent where it is refused (R172). -/
def requestChase (body : List Byte) (d : Device) : Option Device :=
  let slot := octetAt 0 body
  let offset := ofSignedOctets (field 1 3 body) * 480 + ofSignedOctets (field 4 2 body)
  if 11 < slot ∨ ownsSlot slot d = true then none
  else
    let c := newChase slot offset d.chase
    if d.chase.state = .waiting then some (d.setChase c) else some (moveChase c .set none d)

/-- CHASE_OFF (R173). -/
def endChase (d : Device) : Device :=
  if d.chase.state = .off then d else moveChase Chase.initial .offCommand none d

/-- CHASE_TRIM by a signed amount (R173). -/
def trimChase (amount : Int) (d : Device) : Device × Response :=
  let trim := d.chase.trim + amount
  if d.chase.state = .off then (d, refusedFor .notChasing)
  else if trim < -32768 ∨ 32767 < trim then (d, answer .badArg)
  else (d.setChase { d.chase with trim := trim }, done [])

/-! ### Losing the lead (R178 to R180) -/

/-- The record on entering HOLDOVER (R178). -/
def heldOver (c : Chase) : Chase :=
  { c with state := .holdover, correction := 0, wind := .none_, lockRun := 0, holdoverCount := 0 }

/-- SEEKING, CATCHING or LOCKED enters HOLDOVER (R178, R180). -/
def enterHoldover (cause : ChaseCause) (d : Device) : Device :=
  if chaseRunning d.chase then moveChase (heldOver d.chase) cause d.chase.error d else d

/-- A Slot Table entry became FREE: cause LEAD_FREE where it is the lead slot (R178). -/
def leadFreed (slot : Nat) (d : Device) : Device :=
  if d.chase.leadSlot = some slot then enterHoldover .leadFree d else d

/-- A word gap of 512 (R178). -/
def leadSilent (d : Device) : Device :=
  if 512 ≤ d.chase.wordGap then enterHoldover .leadSilent d else d

/-- A holdover count of 4096 (R179). -/
def holdoverExpiry (d : Device) : Device :=
  if d.chase.state = .holdover ∧ 4096 ≤ d.chase.holdoverCount then moveChase Chase.initial .expired none d else d

/-- The counts of a word reference period: the periods since the lead word's frame 0, the word gap and the holdover
count (R174, R178, R179). -/
def countChasePeriod (d : Device) : Device :=
  let c := d.chase
  d.setChase { c with
    leadWord := c.leadWord.map (fun w => { w with age := w.age + 1 })
    wordGap := if chaseRunning c then min 512 (c.wordGap + 1) else c.wordGap
    holdoverCount := if c.state = .holdover then min 4096 (c.holdoverCount + 1) else c.holdoverCount }

/-! ### Updates (R175 to R177) -/

/-- The judgement of an update: the next state, the cause where the state changes, and the lock run (R176). -/
def judge (found : ChaseState) (newLead : Bool) (run : Nat) (e : Int) : ChaseState × Option ChaseCause × Nat :=
  let m := e.natAbs
  let near := m ≤ 4800
  let first := if m ≤ 4 then 1 else 0
  match found with
  | .off => (.off, none, run)
  | .waiting => if near then (.catching, some .near, first) else (.seeking, some .far, run)
  | .seeking => if near then (.catching, some .near, first) else (.seeking, none, run)
  | .catching =>
    if ¬ near then (.seeking, some .far, 0)
    else if 4 < m then (.catching, none, 0)
    else if 8 ≤ run + 1 then (.locked, some .locked, 8)
    else (.catching, none, run + 1)
  | .locked =>
    if newLead then (if near then (.catching, some .newLead, first) else (.seeking, some .newLead, 0))
    else if ¬ near then (.seeking, some .slip, 0)
    else if 16 < m then (.catching, some .slip, 0)
    else (.locked, none, run)
  | .holdover => if near then (.catching, some .return_, first) else (.seeking, some .return_, 0)

/-- The correction of a state and an error (R177). -/
def correctionFor (st : ChaseState) (e : Int) : Int :=
  match st with
  | .catching | .locked => limitTo 127 (e.tdiv 8)
  | _ => 0

/-- The wind request of a state and an error (R177). -/
def windFor (st : ChaseState) (e : Int) : WindRequest :=
  match st with
  | .seeking => if 0 < e then .windFwd else .windRev
  | _ => .none_

/-- The error of an update (R175, step 4); a free value where there is no own latch (log 19). -/
def updateError (lead offset : Int) (latch : Option Nat) : Int :=
  match latch with
  | some l => lead + offset - l
  | none => Config.unlatchedError lead offset

/-- A lead word taken (R175). -/
def takeLeadWord (w : StatusWord) (d : Device) : Device :=
  let c := d.chase
  if c.state = .off then d
  else
    let newLead := c.leadOwner.isSome && c.leadOwner != some w.owner
    let run := if newLead then 0 else c.lockRun
    let offset := limitTo offsetLimit (c.offset.getD 0 + c.trim)
    let e := updateError (sampleCount w.position) offset c.ownLatch
    let verdict := judge c.state newLead run e
    let c1 : Chase :=
      { c with
        state := verdict.1
        leadOwner := some w.owner
        offset := some offset
        trim := 0
        leadWord := some { position := w.position, motion := w.motion, age := 63 }
        error := some e
        correction := correctionFor verdict.1 e
        wind := windFor verdict.1 e
        lockRun := verdict.2.2
        wordGap := 0
        holdoverCount := 0 }
    match verdict.2.1 with
    | some cause => moveChase c1 cause (some e) d
    | none => d.setChase c1

/-- A valid status word reaches the chase where it is a lead word (R174). -/
def offerLeadWord (slot : Nat) (w : StatusWord) (d : Device) : Device :=
  if d.chase.leadSlot = some slot ∧ w.owner ≠ (cfg d).station then takeLeadWord w d else d

/-! ### Commands -/

/-- LEAD_SILENT (R178). -/
def execLeadSilent (s : State) : Host.Outcome State Fault Refusal := .next { s with dev := leadSilent s.dev }

/-- HOLDOVER_EXPIRY (R179). -/
def execHoldoverExpiry (s : State) : Host.Outcome State Fault Refusal :=
  .next { s with dev := holdoverExpiry s.dev }

end Sys2Proof.Machine
end

