-- ==== Sys2Proof/Machine/SlotTable.lean ====
section
/-! DEFINITION. The Slot Table (08) and the Copy Gate's view of each link slot (R116). -/

namespace Sys2Proof.Machine

open Sys2Proof

/-- This station's number. -/
def ownStation (d : Device) : Nat := (cfg d).station

/-- The station stops driving a slot: its relay history is emptied (R128). -/
def stopDriving (k : Nat) (d : Device) : Device := putRelay k Relay.empty d

/-- The entry becomes FREE: the values of the table, SLOT_CHANGE, the end of driving, and the chase told (R158, R159,
R162, R178). -/
def freeEntry (k : Nat) (keepClaim : Bool) (cause : SlotCause) (d : Device) : Device :=
  leadFreed k (stopDriving k (raise (.slotChange k none cause)
    (putSlotEntry k { SlotEntry.free with ownClaim := keepClaim && (slotEntry k d).ownClaim } d)))

/-- This station's queued claim for a slot is withdrawn because another station has the slot (R157, R160). -/
def withdrawClaim (k : Nat) (d : Device) : Device :=
  if (slotEntry k d).ownClaim then
    raise (.claimResult k (some .taken))
      (withdrawFirst (isSlotMessage kindSlotClaim k) (putSlotEntry k { slotEntry k d with ownClaim := false } d))
  else d

/-! ### Slot messages (R157, R158) -/

/-- SLOT_CLAIM for slot `k` from station `s` completes (R157). -/
def claimCompletes (k s : Nat) (d : Device) : Device :=
  let e := slotEntry k d
  match e.owner with
  | some _ => d
  | none =>
    let taken : SlotEntry :=
      { e with owner := some s, copy := some .unknown, lastWord := none, absence := 0, invalidRun := 0 }
    if s = ownStation d then
      raise (.claimResult k none) (stopDriving k (raise (.slotChange k (some s) .claimed)
        (putSlotEntry k { taken with ownClaim := false, drive := some .driving } d)))
    else withdrawClaim k (raise (.slotChange k (some s) .claimed) (putSlotEntry k taken d))

/-- SLOT_RELEASE for slot `k` from station `s` completes (R158). -/
def releaseCompletes (k s : Nat) (d : Device) : Device :=
  if (slotEntry k d).owner = some s then freeEntry k true .released d else d

/-! ### Status words (R160, R161, R163) -/

/-- The entry after a valid word of its owner or of a new owner. -/
def wordTaken (w : StatusWord) (e : SlotEntry) : SlotEntry :=
  { e with
    owner := some w.owner, copy := some w.copy
    lastWord := some { position := w.position, motion := w.motion }
    invalidRun := 0 }

/-- This station's slot is taken over by another owner: SLOT_LOST, and its release withdrawn (R160). -/
def overruled (k : Nat) (d : Device) : Device :=
  raise (.slotLost k .overruled)
    (withdrawFirst (isSlotMessage kindSlotRelease k)
      (stopDriving k (putSlotEntry k { slotEntry k d with drive := none, ownRelease := .none_ } d)))

/-- A valid word for slot `k` at the Slot Table and the Copy Gate (R160, R116). A word that names this station in another
station's entry reaches the copy status and nothing else, the run of failed words included (R160; log 27). -/
def validWordAtTable (k : Nat) (w : StatusWord) (d : Device) : Device :=
  let e := slotEntry k d
  let own := ownStation d
  match e.owner with
  | none =>
    if w.owner = own then d
    else
      withdrawClaim k (raise (.slotChange k (some w.owner) .learned)
        (putSlotEntry k { wordTaken w e with absence := 0 } d))
  | some p =>
    if p = w.owner then putSlotEntry k (wordTaken w e) d
    else if w.owner = own then putSlotEntry k { e with copy := some w.copy } d
    else
      let d1 := raise (.slotChange k (some w.owner) .replaced)
        (putSlotEntry k { wordTaken w e with absence := 0 } d)
      if p = own then overruled k d1 else d1

/-- A double drive is found: driving stops, SLOT_LOST, and a release is offered (R163). -/
def doubleDrive (k : Nat) (d : Device) : Device :=
  let e := slotEntry k d
  if e.owner = some (ownStation d) ∧ e.drive = some .driving ∧ 4 ≤ e.invalidRun then
    let d1 := raise (.slotLost k .doubleDrive) (stopDriving k (putSlotEntry k { e with drive := some .stopped } d))
    if e.ownRelease = .none_ then
      (if queueTakes d1 then queueRelease k .owedRelease d1
       else putSlotEntry k { slotEntry k d1 with ownRelease := .owed } d1)
    else d1
  else d

/-- A failed word for slot `k` (R161, R116, R163). -/
def invalidWordAtTable (k : Nat) (d : Device) : Device :=
  let e := slotEntry k d
  match e.owner with
  | none => d
  | some _ =>
    let run := min 255 (e.invalidRun + 1)
    doubleDrive k (putSlotEntry k
      { e with invalidRun := run, copy := if 2 ≤ run then some .unknown else e.copy } d)

/-- The completion of a status word for slot `k`: Slot Table, Copy Gate, then Chase Unit (R131, R160, R161, R175). -/
def wordCompletes (k : Nat) (word : BitVec 64) (d : Device) : Device :=
  if validWord word then offerLeadWord k (readWord word) (validWordAtTable k (readWord word) d)
  else invalidWordAtTable k d

/-! ### Present bits (R162) -/

/-- An absence count of 2400 frees the entry (R162). -/
def slotTimeout (k : Nat) (d : Device) : Device :=
  let e := slotEntry k d
  if e.owner.isSome = true ∧ e.owner ≠ some (ownStation d) ∧ 2400 ≤ e.absence then freeEntry k false .timeout d else d

/-- The present bit of slot `k` in a frame (R162). -/
def takePresentBit (k : Nat) (dominant : Bool) (d : Device) : Device :=
  let e := slotEntry k d
  if e.owner.isSome = true ∧ e.owner ≠ some (ownStation d) then
    slotTimeout k (putSlotEntry k { e with absence := if dominant then 0 else min 2400 (e.absence + 1) } d)
  else putSlotEntry k { e with absence := 0 } d

/-! ### Clearing (R154) -/

/-- The clearing of one entry. -/
def clearEntry (d : Device) (k : Nat) : Device :=
  let e := slotEntry k d
  let d1 := putSlotEntry k SlotEntry.free (stopDriving k d)
  let d2 := if e.owner = some (ownStation d) then raise (.slotLost k .detached) d1 else d1
  let d3 := if e.ownClaim then raise (.claimResult k (some .detached)) d2 else d2
  if e.owner.isSome then leadFreed k d3 else d3

/-- The table is cleared, in slot order, and the queued claims and releases are withdrawn (R154, R136). -/
def clearTable (d : Device) : Device :=
  let d1 := (List.range 12).foldl clearEntry d
  setQueue (d1.link.queue.filter (fun m => m.kind != kindSlotClaim && m.kind != kindSlotRelease)) d1

/-! ### Commands -/

/-- DOUBLE_DRIVE (R163). -/
def execDoubleDrive (slot : Nat) (s : State) : Host.Outcome State Fault Refusal :=
  .next { s with dev := doubleDrive slot s.dev }

/-- SLOT_TIMEOUT (R162). -/
def execSlotTimeout (slot : Nat) (s : State) : Host.Outcome State Fault Refusal :=
  .next { s with dev := slotTimeout slot s.dev }

/-- A status word completes while ATTACHED (R131). -/
def wordArrives (slot : Nat) (word : BitVec 64) (d : Device) : Device :=
  if attached d = true ∧ slot < 12 then wordCompletes slot word d else d

/-- STATUS_WORD_COMPLETION (R160). -/
def execStatusWordCompletion (slot : Nat) (word : BitVec 64) (s : State) : Host.Outcome State Fault Refusal :=
  .next { s with dev := wordArrives slot word s.dev }

end Sys2Proof.Machine
end

