-- ==== Sys2Proof/Machine/Link.lean ====
section
/-! DEFINITION. The Link Port (07): attachment, the receiver, acceptance of messages, contention and the sends. -/

namespace Sys2Proof.Machine

open Sys2Proof

/-! ### Attachment -/

/-- Enter ATTACHED with frame count 0 (R133, R134, R137), and fill the outgoing queue (R151). -/
def enterAttached (cause : LinkCause) (receiver : Receiver) (d : Device) : Device :=
  fillPlaces 8 (raise (.linkState .attached cause) (d.setLink { d.link with
    attachment := .attached, frameCount := 0, receiver := receiver, skipRun := 0, quiet := 0, bits := []
    yieldCount := 0, echoRun := 0, words := List.replicate 12 0 }))

/-- Enter LISTEN with listen wait 0. -/
def enterListen (cause : LinkCause) (d : Device) : Device :=
  raise (.linkState .listen cause) (d.setLink { d.link with attachment := .listen, listenWait := 0 })

/-- Leave ATTACHED for LISTEN (R136). -/
def leaveAttached (cause : LinkCause) (d : Device) : Device :=
  clearTable (enterListen cause (d.setLink { d.link with
    receiver := .idle, quiet := 0, bits := [], yieldCount := 0, echoRun := 0
    misplacedThis := false, misplacedPrevious := false
    queue := d.link.queue.map (fun m => { m with sent := none }) }))

/-- A queued report returns to WAITING when LINK_RESTART empties the queue (R138, R89). -/
def returnReport (d : Device) (m : Queued) : Device :=
  match m.origin with
  | .report p => updateEntry p (fun e => { e with report := .waiting }) d
  | _ => d

/-- LINK_RESTART empties the outgoing queue (R138). -/
def emptyQueue (d : Device) : Device := setQueue [] (d.link.queue.foldl returnReport d)

/-- LINK_RESTART (R138, R180). -/
def restartLink (d : Device) : Device :=
  match (cfg d).linkMode with
  | .off => d
  | .normal =>
    let d1 := enterHoldover .restart d
    if attached d1 then emptyQueue (leaveAttached .restart d1) else emptyQueue (enterListen .restart d1)
  | .loop => enterAttached .restart .idle (emptyQueue (leaveAttached .restart (enterHoldover .restart d)))

/-- The Link Port at the acceptance of the configuration block (R132, R137). -/
def startLink (d : Device) : Device :=
  match (cfg d).linkMode with
  | .off => d
  | .normal => enterListen .configured d
  | .loop => enterAttached .configured .idle d

/-- The listen wait at which this station founds (R133). -/
def foundingWait (d : Device) : Nat := 128 + 16 * ownStation d

/-- A frame starts in LISTEN with the founding wait reached: the station founds (R133). -/
def found (d : Device) : Device :=
  if d.link.attachment = .listen ∧ foundingWait d ≤ d.link.listenWait then enterAttached .founded .idle d else d

/-- The 64th frame of ALIGN with its marker (R134). -/
def endAlign (marker : Bool) (d : Device) : Device :=
  if marker then enterAttached .aligned .skip d else enterListen .alignMissing d

/-- The marker of a frame (R133, R134, R135). -/
def takeMarker (marker : Bool) (d : Device) : Device :=
  match d.link.attachment with
  | .off => d
  | .listen =>
    if marker then
      raise (.linkState .align .markerHeard) (d.setLink { d.link with attachment := .align, alignCount := 0 })
    else d.setLink { d.link with listenWait := min 240 (d.link.listenWait + 1) }
  | .align =>
    let d1 := d.setLink { d.link with alignCount := d.link.alignCount + 1 }
    if 64 ≤ d1.link.alignCount then endAlign marker d1
    else if marker then enterListen .alignEarly d1 else d1
  | .attached =>
    if marker = true ∧ d.link.frameCount ≠ 0 then
      (if d.link.misplacedPrevious then leaveAttached .misaligned d
       else d.setLink { d.link with misplacedThis := true })
    else d

/-! ### The outgoing queue on the link -/

/-- The message on the link. -/
def onLink (d : Device) : Option Queued := d.link.queue.find? (fun m => m.sent.isSome)

/-- Change the message on the link. -/
def updateOnLink (f : Queued → Queued) (d : Device) : Device :=
  setQueue (d.link.queue.map (fun m => if m.sent.isSome then f m else m)) d

/-- The message on the link leaves the queue; its place is still to be filled. -/
def removeOnLink (d : Device) : Device := setQueue (withoutFirst (fun m => m.sent.isSome) d.link.queue) d

/-- The threshold's base (R143). -/
def thresholdBase (d : Device) : Nat :=
  match d.link.queue.head? with
  | some m => if urgentKind m.kind then 8 else 12
  | none => 12

/-- The start threshold: base plus yield (R143). -/
def startThreshold (d : Device) : Nat := thresholdBase d + d.link.yieldCount

/-- The conditions of R145, with no message already on the link. -/
def sendDue (d : Device) : Bool :=
  attached d && d.link.receiver == .idle && !d.link.queue.isEmpty && (onLink d).isNone &&
    decide (startThreshold d ≤ d.link.quiet)

/-- The first message goes on the link. -/
def putFirstOnLink (d : Device) : Device :=
  match d.link.queue with
  | m :: rest => setQueue ({ m with sent := some 0 } :: rest) d
  | [] => d

/-- The start of a frame: the yield's test and the start of a send, on one threshold (R143 to R145). -/
def startFrame (d : Device) : Device :=
  let reached := attached d && d.link.receiver == .idle && decide (startThreshold d ≤ d.link.quiet)
  let d1 := if sendDue d then putFirstOnLink d else d
  if reached then d1.setLink { d1.link with yieldCount := 0 } else d1

/-- A send completes (R148). -/
def completeSend (d : Device) : Device :=
  match onLink d with
  | none => d
  | some m =>
    let d1 := removeOnLink d
    let d2 := d1.setLink { d1.link with yieldCount := 3, echoRun := 0 }
    fillPlace (match m.origin with
      | .report p => reportSent p d2
      | _ => d2)

/-- A dropped release at the Slot Table (R159). -/
def releaseDropped (k : Nat) (d : Device) : Device :=
  let e := slotEntry k d
  if e.owner = some (ownStation d) ∧ e.drive = some .stopped then freeEntry k false .releaseLost d
  else putSlotEntry k { e with ownRelease := .none_ } d

/-- The slot a queued slot message is about. -/
def messageSlot (m : Queued) : Nat := octetAt 0 m.body

/-- What the drop of a message does at the block that offered it (R146, R159). -/
def dropEffect (m : Queued) (d : Device) : Device :=
  match m.origin with
  | .localClaim =>
    raise (.claimResult (messageSlot m) (some .dropped))
      (putSlotEntry (messageSlot m) { slotEntry (messageSlot m) d with ownClaim := false } d)
  | .localRelease | .owedRelease => releaseDropped (messageSlot m) d
  | .report p => reportSent p d
  | .detachedReport | .refusalReport => d

/-- The first message with sixteen losses is dropped from the queue (R146). -/
def dropMessage (d : Device) : Device :=
  match d.link.queue.find? (fun m => decide (16 ≤ m.losses)) with
  | none => d
  | some m =>
    fillPlace (dropEffect m (raise (.messageDropped m.kind m.destination)
      (setQueue (withoutFirst (fun x => decide (16 ≤ x.losses)) d.link.queue) d)))

/-- A loss (R146); a detached report is withdrawn (R88). -/
def loseSend (d : Device) : Device :=
  match onLink d with
  | none => d
  | some m =>
    if m.origin = .detachedReport then fillPlace (removeOnLink d)
    else
      let d1 := updateOnLink (fun x => { x with sent := none, losses := x.losses + 1 }) d
      if 16 ≤ m.losses + 1 then dropMessage d1 else d1

/-- An echo run of 3 makes the station leave ATTACHED (R147). -/
def echoFaultsReached (d : Device) : Device :=
  if attached d = true ∧ 3 ≤ d.link.echoRun then leaveAttached .echoFaults d else d

/-- An echo fault (R147); a detached report is withdrawn (R88). -/
def echoFault (d : Device) : Device :=
  match onLink d with
  | none => d
  | some m =>
    let d1 :=
      if m.origin = .detachedReport then fillPlace (removeOnLink d)
      else updateOnLink (fun x => { x with sent := none }) d
    let d2 := raise (.linkFault m.kind) d1
    echoFaultsReached (d2.setLink { d2.link with echoRun := d2.link.echoRun + 1 })

/-- The message bit this station drives: `true` is dominant, and only an ATTACHED station drives one (R145, R130). -/
def drivenMessageBit (d : Device) : Bool :=
  match onLink d with
  | some m => attached d && (messageBits (ownStation d) m).getD (m.sent.getD 0) false
  | none => false

/-- The send's comparison of the bit driven with the bit read (R146 to R148). -/
def compareSent (driven read : Bool) (d : Device) : Device :=
  match onLink d with
  | none => d
  | some m =>
    if driven = read then
      (if (messageBits (ownStation d) m).length ≤ m.sent.getD 0 + 1 then completeSend d
       else updateOnLink (fun x => { x with sent := some (x.sent.getD 0 + 1) }) d)
    else if read then loseSend d else echoFault d

/-! ### Acceptance (R141, R142) -/

/-- The bad-message count rises, saturating at 255 (R141). -/
def countBad (d : Device) : Device := d.setLink { d.link with bad := min 255 (d.link.bad + 1) }

/-- The body length of the six kinds of the kind table; absent for any other kind. -/
def kindBodyLength (kind : Nat) : Option Nat :=
  if kind = kindSlotClaim ∨ kind = kindSlotRelease ∨ kind = kindEditCancel then some 1
  else if kind = kindEditPost then some 9
  else if kind = kindEditReport then some 10
  else if kind = kindChaseSet then some 6 else none

/-- A slot kind. -/
def isSlotKind (kind : Nat) : Bool := kind == kindSlotClaim || kind == kindSlotRelease

/-- A malformed body (R142, step 1). -/
def malformedBody (kind : Nat) (body : List Byte) : Bool :=
  match kindBodyLength kind with
  | none => false
  | some n => body.length != n || (isSlotKind kind && decide (11 < octetAt 0 body))

/-- The message is for this station (R142, step 3). -/
def destinationAccepted (dest : Nat) (d : Device) : Bool :=
  dest == ownStation d || (decide (64 ≤ dest ∧ dest ≤ 71) && (cfg d).groups.getLsbD (dest - 64)) || dest == 255

/-- The source is in the edit authority set. -/
def hasAuthority (source : Nat) (d : Device) : Bool := (cfg d).authority.getLsbD source

/-- A refused link post is answered with one refusal report, if the queue takes it (R86). -/
def refusePost (source : Nat) (tag : Byte) (refusal : Nat) (d : Device) : Device :=
  if queueTakes d then
    setQueue (joinQueue (newMessage kindEditReport source (refusalBody tag refusal) .refusalReport) d.link.queue) d
  else d

/-- An edit post taken as a link message (R86). -/
def takeLinkPost (source : Nat) (body : List Byte) (d : Device) : Device :=
  let tag := body.getD 0 0
  match readPost body with
  | none => refusePost source tag 16 d
  | some post =>
    match placePost (.station source) post d with
    | (d1, .placed _) => d1
    | (_, .duplicate) => refusePost source tag 17 d
    | (_, .full) => refusePost source tag 18 d

/-- A message handed to its block, past its authority (R142, steps 4 and 5). -/
def handOn (kind : Nat) (m : LinkMessage) (d : Device) : Device :=
  if kind = kindEditPost then takeLinkPost m.source m.body d
  else if kind = kindEditCancel then (cancelEntry (.station m.source) (m.body.getD 0 0) d).1
  else if kind = kindChaseSet then (requestChase m.body d).getD d
  else d

/-- Kinds that need authority (R142, step 4). -/
def needsAuthority (kind : Nat) : Bool := kind == kindEditPost || kind == kindEditCancel || kind == kindChaseSet

/-- A message past its check (R142). -/
def acceptMessage (kind : Nat) (m : LinkMessage) (d : Device) : Device :=
  if malformedBody kind m.body then countBad d
  else if kind = kindSlotClaim then claimCompletes (octetAt 0 m.body) m.source d
  else if kind = kindSlotRelease then releaseCompletes (octetAt 0 m.body) m.source d
  else if ¬ destinationAccepted m.destination d then d
  else if needsAuthority kind = true ∧ hasAuthority m.source d = false then
    raise (.foreignRequest kind m.source) d
  else handOn kind m d

/-! ### The receiver (R140) -/

/-- The receiver after the end of a message. -/
def receiverIdle (d : Device) : Device :=
  d.setLink { d.link with receiver := .idle, quiet := 0, bits := [] }

/-- The message completion (R141). -/
def completeBits (bits : List Bool) (d : Device) : Device :=
  if messagePasses bits then acceptMessage (readMessage bits).1 (readMessage bits).2 (receiverIdle d)
  else countBad (receiverIdle d)

/-- A bit read in RECEIVING. -/
def receiveBit (b : Bool) (d : Device) : Device :=
  let bits := d.link.bits ++ [b]
  let length := bitsAt 17 5 bits
  if bits.length < 22 then d.setLink { d.link with bits := bits }
  else if 16 < length then countBad (receiverIdle d)
  else if bits.length < 30 + 8 * length then d.setLink { d.link with bits := bits }
  else completeBits bits d

/-- A bit read in SKIP. -/
def skipBit (b : Bool) (d : Device) : Device :=
  let run := if b then 0 else d.link.skipRun + 1
  if 12 ≤ run then d.setLink { d.link with receiver := .idle, quiet := 0, skipRun := 0 }
  else d.setLink { d.link with skipRun := run }

/-- The message bit at the receiver: `true` is dominant. -/
def takeMessageBit (b : Bool) (d : Device) : Device :=
  match d.link.receiver with
  | .idle =>
    if b then d.setLink { d.link with receiver := .receiving, quiet := 0, bits := [true] }
    else d.setLink { d.link with quiet := min 255 (d.link.quiet + 1) }
  | .receiving => receiveBit b d
  | .skip => skipBit b d

/-! ### The control part of a frame (R130, R131) -/

/-- The marker of a frame of the bus, its message bit, and its slots. -/
def slotBits (k : Nat) (f : Frame) : SlotBits := f.slots.getD k recessiveSlot

/-- The present bits of a frame, in slot order (log 18). -/
def takePresentBits (f : Frame) (d : Device) : Device :=
  (List.range 12).foldl (fun acc k => takePresentBit k (slotBits k f).present acc) d

/-- A status bit joins the word being read; a dominant bit is 0 (R131). -/
def shiftWord (w : BitVec 64) (dominant : Bool) : BitVec 64 :=
  w <<< 1 ||| (if dominant then 0 else 1)

/-- The status bits of a frame join the twelve words being read. -/
def takeStatusBits (f : Frame) (d : Device) : Device :=
  d.setLink { d.link with
    words := (List.range 12).map (fun k => shiftWord (d.link.words.getD k 0) (slotBits k f).status) }

/-- At the end of the frame with count 63 the twelve words complete, in slot order (log 18). -/
def completeWords (d : Device) : Device :=
  (List.range 12).foldl (fun acc k => wordCompletes k (d.link.words.getD k 0) acc) d

/-- The frame count advances at the end of the frame (R131). -/
def advanceFrame (d : Device) : Device :=
  d.setLink { d.link with frameCount := (d.link.frameCount + 1) % 64 }

/-- What follows the message bit in a frame read while ATTACHED. -/
def takeSlots (f : Frame) (d : Device) : Device :=
  let d1 := takeStatusBits f (takePresentBits f d)
  advanceFrame (if d.link.frameCount = 63 then completeWords d1 else d1)

/-- The marker, then the message bit with the send's comparison, then the slots (R130). -/
def readControl (drivenBit : Bool) (f : Frame) (d : Device) : Device :=
  let d1 := takeMarker f.marker d
  if attached d1 then
    let d2 := compareSent drivenBit f.message d1
    if attached d2 then
      let d3 := takeMessageBit f.message d2
      takeSlots f d3
    else d2
  else d1

/-- The samples of a frame, as LINK_RX supplies them in the next period: those of a HELD slot whose present bit was
dominant, read while ATTACHED; else silence (R166). -/
def storeReceived (readWhileAttached : Bool) (f : Frame) (d : Device) : Device :=
  d.setLink { d.link with
    received := (List.range 12).map (fun k =>
      if readWhileAttached && (slotEntry k d).owner.isSome && (slotBits k f).present then (slotBits k f).samples
      else silentPair) }

/-! ### Commands -/

/-- A message past its check completes at this station (R141, R142): while ATTACHED and not in SKIP. Where it is this
station's own message on the link, its send completes first (log 21). -/
def messageArrives (kind : Nat) (m : LinkMessage) (d : Device) : Device :=
  if attached d = true ∧ d.link.receiver ≠ .skip then
    let own := match onLink d with
      | some q => m.source == ownStation d && q.kind == kind && q.destination == m.destination && q.body == m.body
      | none => false
    acceptMessage kind m (receiverIdle (if own then completeSend d else d))
  else d

/-- SLOT_CLAIM_MESSAGE (R157). -/
def execSlotClaimMessage (message : LinkMessage) (s : State) : Host.Outcome State Fault Refusal :=
  .next { s with dev := messageArrives kindSlotClaim message s.dev }

/-- SLOT_RELEASE_MESSAGE (R158). -/
def execSlotReleaseMessage (message : LinkMessage) (s : State) : Host.Outcome State Fault Refusal :=
  .next { s with dev := messageArrives kindSlotRelease message s.dev }

/-- EDIT_POST_MESSAGE (R86). -/
def execEditPostMessage (message : LinkMessage) (s : State) : Host.Outcome State Fault Refusal :=
  .next { s with dev := messageArrives kindEditPost message s.dev }

/-- EDIT_CANCEL_MESSAGE (R106). -/
def execEditCancelMessage (message : LinkMessage) (s : State) : Host.Outcome State Fault Refusal :=
  .next { s with dev := messageArrives kindEditCancel message s.dev }

/-- CHASE_SET_MESSAGE (R172). -/
def execChaseSetMessage (message : LinkMessage) (s : State) : Host.Outcome State Fault Refusal :=
  .next { s with dev := messageArrives kindChaseSet message s.dev }

/-- EDIT_REPORT_MESSAGE (R142). -/
def execEditReportMessage (message : LinkMessage) (s : State) : Host.Outcome State Fault Refusal :=
  .next { s with dev := messageArrives kindEditReport message s.dev }

/-- MESSAGE_OF_UNKNOWN_KIND (R142, step 5). -/
def execMessageOfUnknownKind (kind : Nat) (message : LinkMessage) (s : State) :
    Host.Outcome State Fault Refusal :=
  .next { s with dev := messageArrives kind message s.dev }

/-- A message that fails its check or is malformed ends (R140, R141). -/
def badMessageArrives (d : Device) : Device :=
  if attached d = true ∧ d.link.receiver ≠ .skip then countBad (receiverIdle d) else d

/-- BAD_MESSAGE (R141). -/
def execBadMessage (s : State) : Host.Outcome State Fault Refusal :=
  .next { s with dev := badMessageArrives s.dev }

/-- SEND_START (R145). -/
def execSendStart (s : State) : Host.Outcome State Fault Refusal :=
  .next { s with dev := if sendDue s.dev then startFrame s.dev else s.dev }

/-- SEND_COMPLETION (R148). -/
def execSendCompletion (s : State) : Host.Outcome State Fault Refusal :=
  .next { s with dev := if attached s.dev then completeSend s.dev else s.dev }

/-- LINK_FOUNDING (R133). -/
def execLinkFounding (s : State) : Host.Outcome State Fault Refusal := .next { s with dev := found s.dev }

/-- The end of the align count, where 64 frames have been counted or this is the 64th (R134). -/
def alignEnds (marker : Bool) (d : Device) : Device :=
  if d.link.attachment = .align ∧ 63 ≤ d.link.alignCount then
    endAlign marker (d.setLink { d.link with alignCount := 64 })
  else d

/-- ALIGN_COUNT_END (R134). -/
def execAlignCountEnd (marker : Bool) (s : State) : Host.Outcome State Fault Refusal :=
  .next { s with dev := alignEnds marker s.dev }

/-- The end of SKIP: the receiver becomes IDLE with quiet count 0 and skip run 0 (R140). -/
def skipEnds (d : Device) : Device :=
  if attached d = true ∧ d.link.receiver = .skip ∧ 11 ≤ d.link.skipRun then
    d.setLink { d.link with receiver := .idle, quiet := 0, skipRun := 0 }
  else d

/-- SKIP_END (R140). -/
def execSkipEnd (s : State) : Host.Outcome State Fault Refusal := .next { s with dev := skipEnds s.dev }

/-- MESSAGE_DROPPED (R146): a message with sixteen losses. -/
def execMessageDropped (s : State) : Host.Outcome State Fault Refusal := .next { s with dev := dropMessage s.dev }

/-- ECHO_FAULTS (R147). -/
def execEchoFaults (s : State) : Host.Outcome State Fault Refusal := .next { s with dev := echoFaultsReached s.dev }

end Sys2Proof.Machine
end

