-- ==== Sys2Proof/Machine/Gate.lean ====
section
/-! DEFINITION. The Copy Gate (06): the status of each source, derivation, the accumulator and the recorded run, the
decision at a sealing, and the relaying of status. -/

namespace Sys2Proof.Machine

open Sys2Proof

/-! ### Routes and the status of sources (R115 to R119, R168) -/

/-- The highest-numbered enabled route naming a destination (R168). -/
def routeFor (dest : Destination) (d : Device) : Option Route :=
  (d.router.routes.filter (fun r => r.enabled && r.destination == dest)).getLast?

/-- The source feeding a destination, SILENCE where no enabled route names it (R119, R168). -/
def sourceFor (dest : Destination) (d : Device) : Source := ((routeFor dest d).map Route.source).getD .silence

/-- The status a subcode gives, VALID or CARRIED; UNKNOWN where nothing was carried (R117). -/
def subcodeStatus (x : Option Subcode) : CopyStatus :=
  match x with
  | some x => x.copy
  | none => .unknown

/-- The status of LINK_RX `k` (R116): OPEN while the entry is FREE. -/
def linkStatus (k : Nat) (d : Device) : CopyStatus :=
  let e := slotEntry k d
  if e.owner.isSome then e.copy.getD .unknown else .openCopy

/-- The record the play playout is in; absent where it plays with no slot (R14). -/
def playSegment (d : Device) : Option Segment := heldIn .playout d.ring.play.position.segment d

/-- The record the confidence playout is in. -/
def confSegment (d : Device) : Option Segment := heldIn .confOut d.ring.conf.position.segment d

/-- The status of the segment the play playout is in, without an insertion (R117). -/
def tapeSegmentStatus (d : Device) : CopyStatus :=
  match d.ring.play.state with
  | .running =>
    match playSegment d with
    | some r => subcodeStatus r.subcode
    | none => subcodeStatus d.decoder.playCarry
  | _ => .openCopy

/-- The status of CONFIDENCE now (R118). -/
def confidenceStatus (d : Device) : CopyStatus :=
  if d.ring.conf.running then
    match confSegment d with
    | some r => subcodeStatus r.subcode
    | none => .unknown
  else .openCopy

/-- The status of the feed: the source of the route that feeds RECORD_FEED; TAPE and CONFIDENCE cannot (R119). -/
def feedStatusNow (d : Device) : CopyStatus :=
  match sourceFor .recordFeed d with
  | .lineIn => (cfg d).original
  | .linkRx k => linkStatus k d
  | _ => .openCopy

/-- The status of TAPE while the sequencer is INSERTING, or not (R117). -/
def tapeStatus (inserting : Bool) (segment feed : CopyStatus) : CopyStatus :=
  if inserting then moreRestrictive segment feed else segment

/-- The status of TAPE now (R117). -/
def tapeStatusNow (d : Device) : CopyStatus :=
  tapeStatus d.edit.insertion.isSome (tapeSegmentStatus d) (feedStatusNow d)

/-! ### Derivation (R120) and the latch (R121) -/

/-- The derived status of a period; absent where the derivation is a refusal (R120). -/
def derived (source : Source) (feed : CopyStatus) : Option CopyStatus :=
  match source with
  | .lineIn => some feed
  | _ =>
    match feed with
    | .openCopy => some .openCopy
    | .counted3 => some .counted2
    | .counted2 => some .counted1
    | .counted1 => some .spent
    | .spent => none
    | .unknown => none

/-- A status joins an accumulator that may be absent. -/
def accumulate (acc : Option CopyStatus) (x : CopyStatus) : CopyStatus :=
  match acc with
  | some a => moreRestrictive a x
  | none => x

/-- The recorded run after a period (R121). -/
def extendRun (run : Option CopyStatus) (source : Source) (feed : CopyStatus) : Option CopyStatus :=
  match derived source feed with
  | some x => some (accumulate run x)
  | none => run

/-- Replace the recorded run. -/
def setRecordedRun (run : Option CopyStatus) (d : Device) : Device := d.setGate { d.gate with recordedRun := run }

/-- Latch a period into segment `n` (R121). -/
def latchGate (n : Nat) (source : Source) (feed : CopyStatus) (d : Device) : Device :=
  setRecordedRun (extendRun d.gate.recordedRun source feed)
    (updateSegment n (fun r => { r with gate := some (accumulate r.gate feed) }) d)

/-! ### The decision (R122 to R125) -/

/-- The decision of an accumulator alone: the cause of SHUT, or none for OPEN (R122). -/
def feedRefusal (acc : Option CopyStatus) : Option CopyCause :=
  match acc with
  | some .spent => some .feedSpent
  | some .unknown => some .feedUnknown
  | _ => none

/-- The segment keeps old audio: some pair's insert gain is below 256 (R123). -/
def keepsOld (r : Segment) : Bool :=
  match r.gains with
  | some g => g.any (fun x => decide (x < 256))
  | none => true

/-- The decision at an INSERT sealing (R123). -/
def insertRefusal (r : Segment) : Option CopyCause :=
  match feedRefusal r.gate with
  | some c => some c
  | none => if keepsOld r && subcodeStatus r.subcode == .unknown then some .oldUnknown else none

/-- The decision a cause stands for. -/
def decisionOf : Option CopyCause → Decision
  | some _ => .shut
  | none => .opened

/-- The copy status an INSERT sealing under OPEN writes (R124). -/
def insertCopy (run : Option CopyStatus) (r : Segment) : CopyStatus :=
  let old := subcodeStatus r.subcode
  match r.gate with
  | none => old
  | some _ => if keepsOld r then accumulate run old else run.getD .openCopy

/-- The decision of a sealing reported: COPY_REFUSED at a SHUT decision, GATE_CHANGE where it differs from the last
(R124, R125). -/
def reportDecision (n : Nat) (mode : Mode) (cause : Option CopyCause) (d : Device) : Device :=
  let dec := decisionOf cause
  let d1 := match cause with
    | some c => raise (.copyRefused n mode c) d
    | none => d
  let d2 := if d1.gate.lastDecision = dec then d1 else raise (.gateChange dec n mode) d1
  d2.setGate { d2.gate with lastDecision := dec }

/-! ### Status words of driven slots (R126 to R128, R165) -/

/-- The status word latched for a driven slot at frame 0 (R165). -/
def statusWordOf (copy : CopyStatus) (d : Device) : BitVec 64 :=
  makeWord { owner := ownStation d, copy := copy, motion := d.port.motion, position := ownPosition d }

/-- The latch of one driven slot at frame 0; at the first such frame the invalid-word run becomes 0 (R126, R128,
R161, R164). -/
def latchSlot (k : Nat) (copy : CopyStatus) (d : Device) : Device :=
  let r := relayOf k d
  let d1 := putRelay k { r with history := (copy :: r.history).take 3, word := some (statusWordOf copy d) } d
  if r.word.isNone then putSlotEntry k { slotEntry k d1 with invalidRun := 0 } d1 else d1

/-- Some code of a relay history is less restrictive than a status (R127). -/
def heldBackBy (history : List CopyStatus) (x : CopyStatus) : Bool :=
  history.any (fun c => decide (copyRank c < copyRank x))

end Sys2Proof.Machine
end

