-- ==== Sys2Proof/Machine/Concealment.lean ====
section
/-! DEFINITION. The Concealment Unit (04): neighbours, interpolation, and the states of a context. -/

namespace Sys2Proof.Machine

open Sys2Proof

/-! ### Neighbours (R67) -/

/-- The sample of a channel. -/
def oldSampleOf (ch : Channel) (x : OldPair) : OldSample :=
  match ch with | .left => x.left | .right => x.right

/-- The sample of a pair's channel as read, in an old audio field. -/
def readAt (ch : Channel) (i : Nat) (audio : List OldPair) : Option ReadSample :=
  (audio[i]?).map (fun x => { value := (oldSampleOf ch x).value, good := (oldSampleOf ch x).good })

/-- The state in which the following segment's samples are available to a playout (R67). -/
def availableState : Playback → SlotState
  | .play => .decoded
  | .confidence => .checked

/-- The forward neighbour `k` pairs after pair `p` of segment `n` (R67); none where the segment has no slot. -/
def forwardNeighbour (c : ContextId) (n p k : Nat) (current : Option Segment) (d : Device) : Option ReadSample :=
  match current with
  | none => none
  | some r =>
    if p + k ≤ 479 then readAt c.channel (p + k) (r.old.getD [])
    else
      match heldIn (availableState c.playback) (n + 1) d with
      | some next => readAt c.channel (p + k - 480) (next.old.getD [])
      | none => none

/-- A neighbour that is available and GOOD. -/
def goodValue (x : Option ReadSample) : Option Int :=
  match x with
  | some s => if s.good then some s.value.toInt else none
  | none => none

/-- The history entry `back` samples before the current one: 1 is the newest (R67). -/
def historyAt (back : Nat) (h : List ReadSample) : Option ReadSample :=
  if back ≤ h.length then h[h.length - back]? else none

/-- The history as pair 0 of a segment finds it (R68). -/
def historyFor (pos : Position) (x : Context) : List ReadSample :=
  if pos.offset = 0 then
    (if x.last.map (fun l => (l.segment + 1, l.offset)) = some (pos.segment, 479) then x.history else [])
  else x.history

/-! ### Interpolation (R70, R78) -/

/-- The active kernel's tap (R78). -/
def kernelTap (t : Nat) (d : Device) : Int := d.conceal.kernel.getD (4 * (cfg d).kernel + t) 0

/-- The interpolated value of a LOST sample, where one of the two ways holds (R70). -/
def interpolate (b3 b1 f1 f3 : Option Int) (d : Device) : Option Sample :=
  match b1, f1 with
  | some x, some y =>
    match b3, f3 with
    | some w, some z =>
      some (saturateSample
        ((kernelTap 0 d * w + kernelTap 1 d * x + kernelTap 2 d * y + kernelTap 3 d * z) / 64))
    | _, _ => some (saturateSample ((x + y) / 2))
  | _, _ => none

/-! ### The kinds of sample (R69) -/

/-- The three kinds of sample (R69). -/
inductive Kind where
  | good | interpolable | held
  deriving DecidableEq, Repr

/-- A recovering sample is GOOD or interpolable (04, Context states). -/
def recovering : Kind → Bool
  | .held => false
  | _ => true

/-- The mark of a gain and a kind (R71). -/
def markOf (gain : Nat) (k : Kind) : Mark :=
  if gain = 256 then
    match k with | .good => .passed | .interpolable => .interpolated | .held => .held
  else .muted

/-- A value delivered at a gain (R71). -/
def atGain (gain : Nat) (x : Sample) : Sample := sampleOf (x.toInt * gain / 256)

/-! ### The states (R72 to R76) -/

/-- A hold run past the limit: FADING_OUT from gain 256 (R73). -/
def passHoldLimit (limit : Nat) (x : Context) : Context :=
  if x.state = .holding ∧ limit < x.holdRun then
    { x with state := .fadingOut, fadeStart := some 256, fadeStep := 0, holdRun := 0 }
  else x

/-- One step of a fade-out (R74): the gain is the new gain field. -/
def fadeOutStep (x : Context) : Context :=
  let start := x.fadeStart.getD 0
  let i := x.fadeStep + 1
  { x with fadeStep := i, gain := start - start * i / 64 }

/-- The gain 256 of CLEAN and of HOLDING within its limit. -/
def atFull (st : ContextState) (run : Nat) (x : Context) : Context := { x with state := st, holdRun := run, gain := 256 }

/-- What a sample of a kind does to the state and the gain (R72 to R76). The ends of a fade-out, of the recovery run and
of a fade-in follow after the sample. -/
def advanceContext (limit : Nat) (k : Kind) (x : Context) : Context :=
  match x.state with
  | .clean => if recovering k then atFull .clean 0 x else atFull .holding 1 x
  | .holding =>
    if recovering k then atFull .clean 0 x
    else
      let y := passHoldLimit limit { x with holdRun := x.holdRun + 1 }
      if y.state = .fadingOut then fadeOutStep y else { y with gain := 256 }
  | .fadingOut => fadeOutStep x
  | .muted => { x with gain := 0, recoveryRun := if recovering k then x.recoveryRun + 1 else 0 }
  | .fadingIn =>
    if recovering k then { x with fadeStep := x.fadeStep + 1, gain := 4 * (x.fadeStep + 1) }
    else if 0 < x.gain then
      fadeOutStep { x with state := .fadingOut, fadeStart := some x.gain, fadeStep := 0 }
    else { x with state := .muted, recoveryRun := 0, fadeStart := none, fadeStep := 0, gain := 0 }

/-- The history with a new entry, of at most three (R68). -/
def pushHistory (s : ReadSample) (h : List ReadSample) : List ReadSample :=
  (h ++ [s]).drop ((h ++ [s]).length - 3)

/-- A sample treated: the context, the value delivered and its mark. -/
structure Treated where
  context : Context
  value : Sample
  mark : Mark
  deriving DecidableEq, Repr

/-- A sample treated, given what R70 makes of it where it is LOST (R69, R71). -/
def treatSample (limit : Nat) (pos : Position) (s : ReadSample) (filled : Option Sample) (x : Context) : Treated :=
  let kind := if s.good then .good else if filled.isSome then .interpolable else .held
  let pre := if s.good then s.value else filled.getD x.hold
  let y := advanceContext limit kind { x with hold := pre }
  { context := { y with history := pushHistory s (historyFor pos x), last := some pos }
    value := atGain y.gain pre
    mark := markOf y.gain kind }

/-! ### The ends of fades and runs at the device -/

/-- Past the hold limit (R73). -/
def holdLimitPassed (c : ContextId) (d : Device) : Device :=
  putContext c (passHoldLimit (cfg d).holdLimit (contextOf c d)) d

/-- The 64th step of a fade-out: MUTED, MUTES and MUTE (R74, R80). -/
def mute (c : ContextId) (d : Device) : Device :=
  let x := contextOf c d
  if x.state = .fadingOut ∧ 64 ≤ x.fadeStep then
    raise (.muted c.playback c.channel ((x.last.map Position.segment).getD 0))
      (countUp c.playback .mutes 1
        (putContext c { x with state := .muted, recoveryRun := 0, fadeStart := none, fadeStep := 0 } d))
  else d

/-- The recovery run complete: FADING_IN (R75). -/
def recoveryComplete (c : ContextId) (d : Device) : Device :=
  let x := contextOf c d
  if x.state = .muted ∧ (cfg d).recoveryCount ≤ x.recoveryRun then
    putContext c { x with state := .fadingIn, recoveryRun := 0, fadeStart := some 0, fadeStep := 0 } d
  else d

/-- The 64th step of a fade-in: CLEAN (R76). -/
def fadeInComplete (c : ContextId) (d : Device) : Device :=
  let x := contextOf c d
  if x.state = .fadingIn ∧ 64 ≤ x.fadeStep then
    putContext c { x with state := .clean, fadeStart := none, fadeStep := 0, holdRun := 0 } d
  else d

/-- One sample through a context: the device, the value delivered and its mark (R65 to R80). A LOST sample that ends a
fade-out counts in SAMPLES_CONCEALED before it counts in MUTES (the model's choice, log 31). -/
def conceal (c : ContextId) (pos : Position) (current : Option Segment) (s : ReadSample) (d : Device) :
    Device × Sample × Mark :=
  let x := contextOf c d
  let h := historyFor pos x
  let filled :=
    if s.good then none
    else interpolate (goodValue (historyAt 3 h)) (goodValue (historyAt 1 h))
      (goodValue (forwardNeighbour c pos.segment pos.offset 1 current d))
      (goodValue (forwardNeighbour c pos.segment pos.offset 3 current d)) d
  let t := treatSample (cfg d).holdLimit pos s filled x
  let d1 := putContext c t.context d
  let d2 := if s.good then d1 else countUp c.playback .concealed 1 d1
  (fadeInComplete c (recoveryComplete c (mute c d2)), t.value, t.mark)

/-- A context set to its start condition (R66). -/
def startContext (c : ContextId) (d : Device) : Device := putContext c Context.start d

/-- The play contexts set to their start condition: the play playout enters STOPPED (R66). -/
def startPlayContexts (d : Device) : Device :=
  startContext { playback := .play, channel := .right } (startContext { playback := .play, channel := .left } d)

/-- All four contexts set to their start condition (R66). -/
def startAllContexts (d : Device) : Device :=
  startContext { playback := .confidence, channel := .right }
    (startContext { playback := .confidence, channel := .left } (startPlayContexts d))

/-! ### Commands -/

/-- HOLD_LIMIT_PASSED (R73). -/
def execHoldLimitPassed (context : ContextId) (s : State) : Host.Outcome State Fault Refusal :=
  .next { s with dev := holdLimitPassed context s.dev }

/-- MUTE (R74). -/
def execMute (context : ContextId) (s : State) : Host.Outcome State Fault Refusal :=
  .next { s with dev := mute context s.dev }

/-- RECOVERY_COMPLETE (R75). -/
def execRecoveryComplete (context : ContextId) (s : State) : Host.Outcome State Fault Refusal :=
  .next { s with dev := recoveryComplete context s.dev }

/-- FADE_IN_COMPLETE (R76). -/
def execFadeInComplete (context : ContextId) (s : State) : Host.Outcome State Fault Refusal :=
  .next { s with dev := fadeInComplete context s.dev }

end Sys2Proof.Machine
end

