-- ==== Sys2Proof/Machine/Encoding.lean ====
section
/-! DEFINITION. Stripes and encoding (02): requantization, the layout of stripes, the encoder, and sealings. -/

namespace Sys2Proof.Machine

open Sys2Proof

/-! ### Requantization (R36, R37) -/

/-- The requantizer: the error feedback of both channels and the generator. -/
structure Requantizer where
  left : Int
  right : Int
  generator : BitVec 32
  deriving DecidableEq, Repr

/-- The generator advanced by one draw (R37). -/
def nextGenerator (g : BitVec 32) : BitVec 32 := g * 1664525 + 1013904223

/-- The top `s` bits of a generator state (R37). -/
def topBits (s : Nat) (g : BitVec 32) : Int := (g.toNat / 2 ^ (32 - s) : Nat)

/-- The size of one tape step for words of a length (R36). -/
def tapeStep (length : Nat) : Int := 2 ^ (24 - length)

/-- Floor to a multiple of a step. -/
def floorTo (q x : Int) : Int := x / q * q

/-- Full scale for words of a length (R36). -/
def fullScale (length : Nat) (y : Int) : Int := max (-8388608) (min (8388608 - tapeStep length) y)

/-- One requantization: the unsaturated result, the error feedback and the generator afterwards (R36). -/
def requantize (mode : Requant) (length : Nat) (x e : Int) (g : BitVec 32) : Int × Int × BitVec 32 :=
  let q := tapeStep length
  let s := 24 - length
  let g1 := nextGenerator g
  let g2 := nextGenerator g1
  let dither := topBits s g1 - topBits s g2
  match mode with
  | .truncate => (floorTo q x, e, g)
  | .round => (floorTo q (x + q / 2), e, g)
  | .triangular => (floorTo q (x + dither), e, g2)
  | .shaped => (floorTo q (x - e + dither), floorTo q (x - e + dither) - (x - e), g2)

/-- The tape words of one pair, left before right (R35, R36). -/
def requantizePair (mode : Requant) (length : Nat) (x : Pair) (z : Requantizer) : Pair × Requantizer :=
  let l := requantize mode length x.left.toInt z.left z.generator
  let r := requantize mode length x.right.toInt z.right l.2.2
  ({ left := sampleOf (fullScale length l.1), right := sampleOf (fullScale length r.1) },
   { left := l.2.1, right := r.2.1, generator := r.2.2 })

/-- A pair written back without requantization: the bits below the word length are dropped (R35). -/
def dropLowBits (length : Nat) (x : Pair) : Pair :=
  { left := sampleOf (floorTo (tapeStep length) x.left.toInt)
    right := sampleOf (floorTo (tapeStep length) x.right.toInt) }

/-! ### The samples of a segment (R35) -/

/-- A pair to be encoded: requantized, or written as it is. -/
structure EncodePair where
  pair : Pair
  requantized : Bool
  deriving DecidableEq, Repr

/-- A fill, as against an INSERT segment: it has no old audio (R2, R15). -/
def isRecordSegment (r : Segment) : Bool := r.old.isNone

/-- The values of a stored old pair. -/
def pairOf (x : OldPair) : Pair := { left := x.left.value, right := x.right.value }

/-- The pairs of a RECORD segment: the fill's, or zeros under SHUT (R35). -/
def recordPairs (r : Segment) : List EncodePair :=
  if r.decision = some .shut then List.replicate 480 { pair := silentPair, requantized := false }
  else (r.new.getD []).map (fun x => { pair := x.getD silentPair, requantized := true })

/-- The pairs of an INSERT segment: the stored values, requantized where the insert gain is above 0 (R35). -/
def insertPairs (r : Segment) : List EncodePair :=
  ((r.old.getD []).zip (r.gains.getD (List.replicate 480 0))).map
    (fun x => { pair := pairOf x.1, requantized := decide (0 < x.2) })

/-- The pairs an encode treats. -/
def encodePairs (r : Segment) : List EncodePair := if isRecordSegment r then recordPairs r else insertPairs r

/-- Encode pairs in order (R35). -/
def encodeAll (mode : Requant) (length : Nat) : List EncodePair → Requantizer → List Pair × Requantizer
  | [], z => ([], z)
  | x :: rest, z =>
    let one := if x.requantized then requantizePair mode length x.pair z else (dropLowBits length x.pair, z)
    let more := encodeAll mode length rest one.2
    (one.1 :: more.1, more.2)

/-! ### The layout of a stripe (R21 to R23; 11, Tape blocks) -/

/-- A stripe's sample at an index: stripe A takes the left sample of even pairs and the right of odd ones (R21). -/
def stripeSample (head : Head) (index : Nat) (x : Pair) : Sample :=
  match head with
  | .a => if index % 2 = 0 then x.left else x.right
  | .b => if index % 2 = 0 then x.right else x.left

/-- A tape word in three octets (R22). -/
def wordOctets (x : Sample) : List Byte := octets 3 x.toNat

/-- A block of 50 octets: number, content, inner check (R23; 11). -/
def makeBlock (number : Nat) (content : List Byte) : List Byte :=
  let body := BitVec.ofNat 8 number :: content
  body ++ (List.range 4).map (Config.innerCheckOctet body)

/-- The content of data block `b`: places 0 to 14 hold indices b, b+32, to b+448 (R22). -/
def dataContent (samples : List Sample) (b : Nat) : List Byte :=
  (List.range 15).flatMap (fun q => wordOctets (samples.getD (b + 32 * q) 0))

/-- The content of outer parity block `32 + i`, column by column (R23). -/
def parityContent (contents : List (List Byte)) (i : Nat) : List Byte :=
  (List.range 45).map (fun k => Config.outerParityOctet (contents.map (fun c => c.getD k 0)) i)

/-- The content of a subcode block (11). -/
def subcodeContent (x : Subcode) : List Byte := subcodeOctets x ++ List.replicate 30 0

/-- The 38 blocks of a stripe (R23). -/
def makeStripe (head : Head) (pairs : List Pair) (x : Subcode) : List (List Byte) :=
  let samples := pairs.zipIdx.map (fun p => stripeSample head p.2 p.1)
  let contents := (List.range 32).map (dataContent samples)
  (contents ++ (List.range 4).map (parityContent contents) ++ [subcodeContent x, subcodeContent x]).zipIdx.map
    (fun c => makeBlock c.2 c.1)

/-- The fields an INSERT segment takes where its subcode is CARRIED with nothing carried (02, The subcode record). -/
def defaultSubcode (n : Nat) (d : Device) : Subcode :=
  { segment := n, program := none, indexMark := false, editOffset := none, copy := .openCopy, refused := false
    origin := .silence, wordLength := (cfg d).wordLength, station := ownStation d, label := (cfg d).label }

/-! ### The encoder (R34, R38) -/

/-- The encode of a record: its stripes and the requantizer afterwards (R35). -/
def encodeSegment (r : Segment) (z : Requantizer) (d : Device) : Stripes × Requantizer :=
  let x := r.subcode.getD (defaultSubcode r.number d)
  let out := encodeAll (cfg d).requant x.wordLength (encodePairs r) z
  ({ a := makeStripe .a out.1 x, b := makeStripe .b out.1 x }, out.2)

/-- The requantizer as the encode of segment `n` finds it: the continuity test, and feedback 0 for a RECORD segment
sealed SHUT (R34, R35). -/
def requantizerFor (r : Segment) (e : Encoder) : Requantizer :=
  let continues := e.last.isSome && e.last.map (· + 1) == some r.number
  let silence := isRecordSegment r && r.decision == some .shut
  if continues && !silence then { left := e.errorLeft, right := e.errorRight, generator := e.generator }
  else { left := 0, right := 0, generator := e.generator }

/-- An encode starts where none is in flight and a slot is in ENCODING: the lowest segment (R34; log 7). -/
def startEncode (d : Device) : Device :=
  match d.encoder.inFlight, (lowestIn .encoding d).bind (fun n => heldIn .encoding n d) with
  | none, some r =>
    let out := encodeSegment r (requantizerFor r d.encoder) d
    d.setEncoder { d.encoder with
      inFlight := some { segment := r.number, stripes := out.1 }
      last := some r.number
      errorLeft := out.2.left, errorRight := out.2.right, generator := out.2.generator }
  | _, _ => d

/-- The stripe A window of segment `n` has passed: the write horizon is present and `n` or above (R33, R38). -/
def windowPassed (n : Nat) (d : Device) : Bool :=
  match d.encoder.horizon with
  | some h => decide (n ≤ h)
  | none => false

/-- A stored encode: ENCODED with its stripes (R38). -/
def encodedSegment (x : Stripes) (r : Segment) : Segment :=
  { r with state := .encoded, stripes := some x, writtenA := false, writtenB := false, new := none, gains := none
           old := none }

/-- The result of an encode at its slot (R38). -/
def storeEncode (job : EncodeJob) (d : Device) : Device :=
  match heldIn .encoding job.segment d with
  | none => d
  | some r =>
    if windowPassed job.segment d then
      freeSlot job.segment (if r.writeLate then d else writeLate job.segment d)
    else putSegment (encodedSegment job.stripes r) d

/-- An encode completion (R38), and the next encode (R34). -/
def completeEncode (d : Device) : Device :=
  match d.encoder.inFlight with
  | none => d
  | some job => startEncode (storeEncode job (d.setEncoder { d.encoder with inFlight := none }))

/-! ### Sealings (R30 to R33, R124) -/

/-- The subcode of a RECORD sealing with its decision applied (R31, R124). -/
def recordSubcode (r : Segment) (cause : Option CopyCause) (d : Device) : Subcode :=
  let shut := cause.isSome
  { segment := r.number, program := d.recorder.program, indexMark := r.indexRequest, editOffset := none
    copy := if shut then .openCopy else d.gate.recordedRun.getD .openCopy
    refused := shut
    origin := if shut then .silence else d.recorder.fillOrigin.getD .silence
    wordLength := (cfg d).wordLength, station := ownStation d, label := (cfg d).label }

/-- A RECORD sealing of segment `n` (R30). -/
def sealRecord (n : Nat) (d : Device) : Device :=
  match heldIn .fill n d with
  | none => d
  | some r =>
    let cause := feedRefusal r.gate
    let x := recordSubcode r cause d
    startEncode (putSegment { r with
        state := .encoding, subcode := some x, valid := true, decision := some (decisionOf cause)
        new := if cause.isSome then some (List.replicate 480 (some silentPair)) else r.new }
      (reportDecision n .record cause d))

/-- The subcode of an INSERT sealing under OPEN (R32, R124). -/
def insertSubcode (r : Segment) (d : Device) : Subcode :=
  let old := r.subcode.getD (defaultSubcode r.number d)
  { segment := r.number, program := old.program, indexMark := old.indexMark || r.indexRequest
    editOffset := r.editOffset, copy := insertCopy d.gate.recordedRun r, refused := false, origin := .insert
    wordLength := old.wordLength, station := ownStation d, label := old.label }

/-- A mark's result takes its segment (R101). -/
def markAt (n p : Nat) (d : Device) : Device :=
  updateResult p (fun x => { x with first := some n, last := some n }) d

/-- A mark of a sealed segment takes its segment and retires DONE (R101). -/
def finishMark (n : Nat) (d : Device) (p : Nat) : Device := retire p .done (markAt n p d)

/-- The edit link and its entries at a sealing under OPEN (R101). The linked entry comes first, and then the marks that
retire DONE, in firing order (the model's choice, log 31). -/
def assignLink (n : Nat) (d : Device) : Device :=
  let link (p : Nat) (d : Device) : Device :=
    updateResult p (fun x => { x with inFlight := x.inFlight + 1, last := some n })
      (updateSegment n (fun r => { r with editLink := some p }) d)
  match d.edit.touch.insertion, d.edit.touch.marks with
  | some p, marks => marks.foldl (finishMark n) (link p d)
  | none, m :: rest => rest.foldl (finishMark n) (markAt n m (link m d))
  | none, [] => d

/-- An INSERT sealing found late (R33). -/
def testSealing (n : Nat) (d : Device) : Device := if windowPassed n d then writeLate n d else d

/-- The entries of the touch record under SHUT (R107; log 13). The chained PUNCH_OUT of the insertion entry retires SKIPPED
once: in the drop where the insertion still runs, and here where it has ended. The marks retire after it, in firing order
(the model's choice, log 31). -/
def refuseTouched (d : Device) : Device :=
  let d1 := match d.edit.touch.insertion with
    | some p =>
      let d2 := updateEntry p (fun e => { e with outcome := some .refusedCopy }) d
      if d2.edit.insertion = some p then dropInsertion d2 else reconsider (skipChain p d2)
    | none => d
  d.edit.touch.marks.foldl (fun acc m => retire m .refusedCopy acc) d1

/-- An INSERT sealing of segment `n` (R30). -/
def sealInsert (n : Nat) (d : Device) : Device :=
  match heldIn .playout n d with
  | none => d
  | some r =>
    match insertRefusal r with
    | some cause => refuseTouched (freeSlot n (reportDecision n .insert (some cause) d))
    | none =>
      let x := insertSubcode r d
      let d1 := putSegment { r with
          state := .encoding, subcode := some x, valid := true, decision := some .opened }
        (reportDecision n .insert none d)
      startEncode (testSealing n (assignLink n d1))

/-! ### Commands -/

/-- ENCODE_START (R34). -/
def execEncodeStart (s : State) : Host.Outcome State Fault Refusal := .next { s with dev := startEncode s.dev }

/-- ENCODE_COMPLETION (R38). -/
def execEncodeCompletion (s : State) : Host.Outcome State Fault Refusal :=
  .next { s with dev := completeEncode s.dev }

end Sys2Proof.Machine
end

