-- ==== Sys2Proof/Machine/Playout.lean ====
section
/-! DEFINITION. The two playouts and the fill (01, 02), and the mixer (05). -/

namespace Sys2Proof.Machine

open Sys2Proof

/-- A pair with its copy status, as a source supplies it in a period (R115 to R118). -/
structure Supplied where
  pair : Pair
  status : CopyStatus
  deriving DecidableEq, Repr

/-- Silence with status OPEN. -/
def silence : Supplied := { pair := silentPair, status := .openCopy }

/-- The feed of a period: its source, and its pair and status (R119). -/
structure Feed where
  source : Source
  supplied : Supplied
  deriving DecidableEq, Repr

def setPlay (p : PlayPlayout) (d : Device) : Device := d.setRing { d.ring with play := p }
def setConf (p : ConfPlayout) (d : Device) : Device := d.setRing { d.ring with conf := p }

/-! ### Entering a playout (R54) -/

/-- The subcode a slot has in a playout: its own, or a copy of the carry record (R54). -/
def carriedSubcode (r : Segment) (carry : Option Subcode) : Option Subcode := if r.valid then r.subcode else carry

/-- The carry record after a slot enters its playout (R54). -/
def nextCarry (r : Segment) (carry : Option Subcode) : Option Subcode := if r.valid then r.subcode else carry

/-- A record becomes PLAYOUT (R9, R12, R54). -/
def enterPlayout (r : Segment) (d : Device) : Device :=
  let carry := d.decoder.playCarry
  putSegment { r with state := .playout, subcode := carriedSubcode r carry }
    (d.setDecoder { d.decoder with playCarry := nextCarry r carry })

/-- A record becomes CONF_OUT (R16, R54). -/
def enterConfOut (r : Segment) (d : Device) : Device :=
  let carry := d.decoder.confCarry
  putSegment { r with state := .confOut, subcode := carriedSubcode r carry }
    (d.setDecoder { d.decoder with confCarry := nextCarry r carry })

/-- The play playout enters STOPPED from PREFILL or RUNNING and keeps its position: the play contexts start anew and the
play carry record is empty (R8, R18, R54, R66). -/
def stopPlay (d : Device) : Device :=
  if d.ring.play.state = .stopped then d
  else
    let d1 := startPlayContexts (setPlay
      { d.ring.play with state := .stopped, position := normalPosition d.ring.play.position } d)
    d1.setDecoder { d1.decoder with playCarry := none }

/-! ### Prefill (R8, R9) -/

/-- A STOPPED play playout enters PREFILL (R8). -/
def prefillEntry (d : Device) : Device :=
  if d.ring.play.state = .stopped ∧ configured d = true ∧ d.port.motion = .playing ∧ d.port.mode ≠ .record ∧
     d.ring.play.ended = false then
    setPlay { d.ring.play with state := .prefill } d
  else d

/-- Segment `n` is held in the state named. -/
def isHeldIn (st : SlotState) (d : Device) (n : Nat) : Bool := (heldIn st n d).isSome

/-- The segments of the run from `n`, P of them (R9). -/
def prefillRun (n : Nat) (d : Device) : List Nat := (List.range (cfg d).prefill).map (fun k => n + k)

/-- The first segment of the run that is neither DECODED nor in GATHER (R9). -/
def runBreak (n : Nat) (d : Device) : Option Nat :=
  (prefillRun n d).find? (fun m => !isHeldIn .decoded d m && !isHeldIn .gather d m)

/-- A broken run: the lowest DECODED slot is stale where some DECODED segment lies above the break, and it alone becomes
FREE (the text of R9; PREFILL_STALE_DISCARD of 95). The transition table of 01 and R55 name GATHER too as left at this
discard: that no GATHER slot is freed with it is the model's choice (log 32). -/
def discardStale (n : Nat) (d : Device) : Device :=
  match runBreak n d with
  | some m => if (records d).any (fun r => r.state == .decoded && decide (m < r.number)) then freeSlot n d else d
  | none => d

/-- The play playout starts in segment `n` (R9). -/
def startPlay (n : Nat) (d : Device) : Device :=
  match heldIn .decoded n d with
  | none => d
  | some r =>
    reconsider (setPlay
      { d.ring.play with state := .running, position := { segment := n, offset := 0 } } (enterPlayout r d))

/-- The test of PREFILL (R9). -/
def prefillTest (d : Device) : Device :=
  if d.ring.play.state = .prefill then
    match lowestIn .decoded d with
    | none => d
    | some n => if (prefillRun n d).all (isHeldIn .decoded d) then startPlay n d else discardStale n d
  else d

/-! ### Firing (R95, R96) -/

/-- The fade length of a code (05, The Edit Ring). -/
def fadeLength (code : Nat) : Nat := if code = 0 then 0 else if code = 5 then 480 else 16 * 2 ^ code

/-- What the firing checks read of the pair: its position, whether it lies in a slot, its marks, and the feed status. -/
structure FiringPair where
  position : Position
  slotted : Bool
  clean : Bool
  feed : CopyStatus
  deriving DecidableEq, Repr

/-- The first check of R95 that applies. -/
def firingRefusal (h : Nat) (e : Entry) (q : FiringPair) (d : Device) : Option EditStatus :=
  let inserting := d.edit.insertion.isSome
  if d.port.mode ≠ .insert then some .refusedMode
  else if e.post.requiresLock = true ∧ d.chase.state ≠ .locked then some .notLocked
  else if e.post.action ≠ .punchOut ∧ (q.slotted = false ∨ d.edit.touch.spoiled = true) then some .broken
  else if e.post.action = .punchIn ∧ inserting = true then some .refusedState
  else if e.post.action = .punchOut ∧ (inserting = false ∨ d.edit.phase = some .fadeOut) then
    some (if isChainedOut h d then .skipped else .refusedState)
  else if e.post.action = .punchIn ∧ (q.feed = .spent ∨ q.feed = .unknown) then some .refusedCopy
  else none

/-- The result at the firing of a PUNCH_IN or MARK (R96). -/
def firedResult (first : Option Nat) (edge : Bool) : EditResult :=
  { first := first, last := none, inFlight := 0, tally := 0, weak := false, unverified := false
    edgeConcealed := edge, lockLost := false }

/-- The PLAYOUT record takes an edit offset if it has none (R96, R106). -/
def takeEditOffset (pos : Position) (d : Device) : Device :=
  updateSegment pos.segment (fun r => { r with editOffset := r.editOffset.or (some pos.offset) }) d

/-- A PUNCH_IN fires (R96). -/
def firePunchIn (h : Nat) (e : Entry) (q : FiringPair) (d : Device) : Device :=
  let d1 := updateEntry h (fun x => { x with
    state := .inserting, outcome := some .done
    result := some (firedResult (some q.position.segment) (!q.clean)) }) d
  let d2 := d1.setEdit { d1.edit with
    insertion := some h
    phase := some (if e.post.fadeCode = 0 then .full else .fadeIn)
    fade := if e.post.fadeCode = 0 then none
      else some { length := fadeLength e.post.fadeCode, shape := e.post.shape, step := 0, start := 0 }
    touch := { d1.edit.touch with insertion := some h } }
  rederive (takeEditOffset q.position d2)

/-- A MARK fires (R96). -/
def fireMark (h : Nat) (q : FiringPair) (d : Device) : Device :=
  let d1 := updateEntry h (fun x => { x with
    state := .verifying, outcome := some .done, result := some (firedResult none false) }) d
  rederive (updateSegment q.position.segment (fun r => { r with indexRequest := true })
    (setTouch { d1.edit.touch with marks := d1.edit.touch.marks ++ [h] } d1))

/-- A PUNCH_OUT fires, with outcome DONE (R91): a fade-out from the sequencer's gain; a butt is a fade-out of no steps,
whose one pair is this (R96; log 16). -/
def firePunchOut (h : Nat) (e : Entry) (d : Device) : Device :=
  let d1 := updateEntry h (fun x => { x with fired := true, outcome := some .done }) d
  rederive (d1.setEdit { d1.edit with
    phase := some .fadeOut
    fade := some { length := fadeLength e.post.fadeCode, shape := e.post.shape, step := 0, start := d.edit.gain } })

/-- The head of work fires at its pair (R95, R96). -/
def fireEntry (h : Nat) (e : Entry) (q : FiringPair) (d : Device) : Device :=
  match firingRefusal h e q d with
  | some st => rederive (retireUnfired h st d)
  | none =>
    match e.post.action with
    | .punchIn => firePunchIn h e q d
    | .mark => fireMark h q d
    | .punchOut => firePunchOut h e d

/-- Entries fire or retire in ring order at one pair (R94, R95). -/
def fireAt (q : FiringPair) : Nat → Device → Device
  | 0, d => d
  | n + 1, d =>
    let d1 := reconsider d
    match headOfWork d1 with
    | some h =>
      match entryAt h d1 with
      | some e => if e.target = some q.position then fireAt q n (fireEntry h e q d1) else d1
      | none => d1
    | none => d1

/-! ### Fades and mixing (R97 to R99) -/

/-- The fade table's point `j` of a shape; point 16 is 256 (R97, R100). -/
def fadePoint (shape j : Nat) (d : Device) : Int :=
  if j = 16 then 256 else (d.edit.fadeTable.getD (16 * shape + j) 0 : Nat)

/-- The curve of a fade (R97). -/
def fadeCurve (length shape i : Nat) (d : Device) : Int :=
  if length ≤ i then 256
  else
    let j := 16 * i / length
    fadePoint shape j d +
      (fadePoint shape (j + 1) d - fadePoint shape j d) * (16 * (i : Int) - j * length) / length

/-- The fade with its step raised by one. -/
def stepFade (f : Fade) : Fade := { f with step := f.step + 1 }

/-- The gain of the pair being delivered and the sequencer with its fade stepped (R97, R98). -/
def mixGain (d : Device) : Nat × Edit :=
  let e := d.edit
  match e.phase, e.fade with
  | some .fadeIn, some f =>
    ((fadeCurve f.length f.shape (f.step + 1) d).toNat, { e with fade := some (stepFade f) })
  | some .full, _ => (256, e)
  | some .fadeOut, some f =>
    if f.length = 0 then (0, e)
    else
      ((f.start * (256 - fadeCurve f.length f.shape (f.step + 1) d) / 256).toNat,
        { e with fade := some (stepFade f) })
  | _, _ => (0, e)

/-- A fade-out begins on this pair. -/
def fadeOutBegins (e : Edit) : Bool :=
  e.phase == some .fadeOut && (e.fade.map Fade.step).getD 1 == 0

/-- The end of a fade-in: FULL (R97). -/
def insertFadeInEnd (d : Device) : Device :=
  match d.edit.phase, d.edit.fade with
  | some .fadeIn, some f =>
    if f.length ≤ f.step then d.setEdit { d.edit with phase := some .full, fade := none } else d
  | _, _ => d

/-- The end of a fade-out: the insertion ends (R98). -/
def insertFadeOutEnd (d : Device) : Device :=
  match d.edit.phase, d.edit.fade with
  | some .fadeOut, some f => if f.length ≤ f.step then endInsertion true d else d
  | _, _ => d

/-- Old and new mixed at a gain (R99). -/
def mixSample (g : Nat) (old new : Sample) : Sample :=
  sampleOf ((old.toInt * (256 - (g : Int)) + new.toInt * g) / 256)

/-- A pair mixed at a gain. -/
def mixPair (g : Nat) (old new : Pair) : Pair :=
  { left := mixSample g old.left new.left, right := mixSample g old.right new.right }

/-- A row with 480 places of which one is replaced. -/
def setPlace {α : Type} (blank : α) (i : Nat) (x : α) (row : Option (List α)) : List α :=
  (row.getD (List.replicate 480 blank)).set i x

/-- What a pair mixed above gain 0 leaves in its segment: gain, new audio, and the latch of the gate (R99, R121). -/
def touchSegment (pos : Position) (g : Nat) (feed : Feed) (d : Device) : Device :=
  let d1 := updateSegment pos.segment (fun r => { r with
    gains := some (setPlace 0 pos.offset g r.gains)
    new := some (setPlace none pos.offset (some feed.supplied.pair) r.new) }) d
  latchGate pos.segment feed.source feed.supplied.status
    (setTouch { d1.edit.touch with insertion := d1.edit.insertion } d1)

/-- The edge of a fade-out at its first pair: the edit offset, and EDGE_CONCEALED (R96, R102, R106). -/
def markEdge (pos : Position) (clean : Bool) (d : Device) : Device :=
  match d.edit.insertion with
  | some p =>
    if fadeOutBegins d.edit then
      updateResult p (fun r => { r with edgeConcealed := r.edgeConcealed || !clean }) (takeEditOffset pos d)
    else d
  | none => d

/-- The mixing of one pair: the device, the pair delivered, and whether an insertion was running (R98, R99). The ends of
fades follow the pair. -/
def mixAt (pos : Position) (clean : Bool) (feed : Feed) (concealed : Pair) (d : Device) : Device × Pair × Bool :=
  match d.edit.insertion with
  | none => (d.setEdit { d.edit with gain := 0 }, concealed, false)
  | some _ =>
    let d1 := markEdge pos clean d
    let m := mixGain d1
    let d2 := d1.setEdit { m.2 with gain := m.1 }
    let d3 := if 0 < m.1 then touchSegment pos m.1 feed d2 else d2
    (insertFadeOutEnd (insertFadeInEnd d3), mixPair m.1 concealed feed.supplied.pair, true)

/-! ### Delivery (R10, R16) -/

/-- The sample a playout reads at its position; LOST with value 0 where the segment has no slot (R14, R67). -/
def readSample (ch : Channel) (offset : Nat) (current : Option Segment) : ReadSample :=
  ((current.bind (·.old)).bind (readAt ch offset)).getD { value := 0, good := false }

/-- A delivered pair stored back with its marks; the flags are kept (R3). -/
def storeDelivered (pos : Position) (pair : Pair) (left right : Mark) (d : Device) : Device :=
  updateSegment pos.segment (fun r => { r with
    old := r.old.map (fun a => a.modify pos.offset (fun x =>
      { left := { x.left with value := pair.left, mark := some left }
        right := { x.right with value := pair.right, mark := some right } })) }) d

/-- The play playout delivers the pair at its position to TAPE (R10, R65, R94 to R99, R117). The left context takes its
sample before the right one (the model's choice, log 29). -/
def deliverPlay (feed : Feed) (d : Device) : Device × Supplied :=
  let pos := d.ring.play.position
  let current := playSegment d
  let segmentStatus := tapeSegmentStatus d
  let l := conceal { playback := .play, channel := .left } pos current (readSample .left pos.offset current) d
  let r := conceal { playback := .play, channel := .right } pos current (readSample .right pos.offset current) l.1
  let clean := l.2.2 == .passed && r.2.2 == .passed
  let q : FiringPair :=
    { position := pos, slotted := current.isSome, clean := clean, feed := feed.supplied.status }
  let fired := fireAt q 33 r.1
  let m := mixAt pos clean feed { left := l.2.1, right := r.2.1 } fired
  let d1 := if current.isSome then storeDelivered pos m.2.1 l.2.2 r.2.2 m.1 else m.1
  (setPlay { d1.ring.play with position := { pos with offset := pos.offset + 1 } } d1,
   { pair := m.2.1, status := tapeStatus m.2.2 segmentStatus feed.supplied.status })

/-- The play playout in one period: a pair while RUNNING, else silence with the status OPEN, which the feed's joins while
the sequencer is INSERTING (R8, R10, R117). -/
def playPeriod (feed : Feed) (d : Device) : Device × Supplied :=
  if d.ring.play.state = .running ∧ d.ring.play.position.offset < 480 then deliverPlay feed d
  else
    (d, { pair := silentPair, status := tapeStatus d.edit.insertion.isSome .openCopy feed.supplied.status })

/-- The confidence playout delivers the pair at its position (R16, R118), the left context before the right one (the
model's choice, log 29). -/
def deliverConf (d : Device) : Device × Supplied :=
  let pos := d.ring.conf.position
  let current := confSegment d
  let status := confidenceStatus d
  let l := conceal { playback := .confidence, channel := .left } pos current (readSample .left pos.offset current) d
  let r := conceal { playback := .confidence, channel := .right } pos current
    (readSample .right pos.offset current) l.1
  let pair : Pair := { left := l.2.1, right := r.2.1 }
  let d1 := storeDelivered pos pair l.2.2 r.2.2 r.1
  (setConf { d1.ring.conf with position := { pos with offset := pos.offset + 1 } } d1,
   { pair := pair, status := status })

/-- The confidence playout in one period (R16). -/
def confPeriod (d : Device) : Device × Supplied :=
  if d.ring.conf.running = true ∧ d.ring.conf.position.offset < 480 then deliverConf d else (d, silence)

/-! ### The end of a played segment (R11 to R14) -/

/-- A segment in PLAYOUT is touched: a pair was mixed above gain 0, or a mark fired in it (R101). -/
def touched (r : Segment) (d : Device) : Bool := r.gains.isSome || !d.edit.touch.marks.isEmpty

/-- A spoiled segment: freed without sealing, then its marks retire BROKEN, in firing order (R108; the order is the model's
choice, log 31). -/
def discardSpoiled (n : Nat) (d : Device) : Device :=
  d.edit.touch.marks.foldl (fun acc m => retire m .broken acc) (freeSlot n d)

/-- The play playout disposes of segment `n` (R11). A spoiled segment's marks retire BROKEN whatever the mode is by then
(R108). -/
def dispose (n : Nat) (d : Device) : Device :=
  match heldIn .playout n d with
  | none => d
  | some r =>
    if d.edit.touch.spoiled then discardSpoiled n d
    else if d.port.mode ≠ .insert ∨ touched r d = false then freeSlot n d
    else sealInsert n d

/-- A blocking slot that is stale becomes FREE (R14). -/
def freeStaleBlock (n : Nat) (d : Device) : Device :=
  match slotOf n d with
  | some r =>
    if r.number < n ∧ (r.state = .gather ∨ r.state = .decoded) then freeSlot r.number d else d
  | none => d

/-- A late flag set in the slot of segment number `n` reaches the stripes taken for that slot that are still queued or in
flight (R6, R12). -/
def overtakeStripes (n : Nat) (d : Device) : Device :=
  d.setDecoder { d.decoder with
    queue := d.decoder.queue.map (fun q => if q.segment % 16 = n % 16 then { q with lateSeen := true } else q) }

/-- The play playout enters segment `n` (R12). -/
def takeNext (n : Nat) (d : Device) : Device :=
  match slotOf n d with
  | none => enterPlayout { freshSegment n .playout with old := some lostAudio } d
  | some r =>
    if r.number = n ∧ r.state = .decoded then enterPlayout r d
    else if r.number = n ∧ r.state = .gather then
      enterPlayout { r with late := true, old := some lostAudio } (overtakeStripes n d)
    else breakInsertion (freeStaleBlock n d)

/-- After disposal: the touch record is emptied, the recorded run is absent, and the test of R105 is made (R101, R105,
R114). -/
def closeBoundary (d : Device) : Device :=
  reconsider (retireTests (setRecordedRun none (setTouch Touch.empty d)))

/-- The end of the segment the play playout is in (R11, R12). -/
def playSegmentEnd (d : Device) : Device :=
  let n := d.ring.play.position.segment
  if d.ring.play.state = .running ∧ 480 ≤ d.ring.play.position.offset then
    let d1 := closeBoundary (dispose n d)
    if n < lastSegment then
      let d2 := takeNext (n + 1) d1
      setPlay { d2.ring.play with position := { segment := n + 1, offset := 0 } } d2
    else
      let d2 := stopPlay d1
      setPlay { d2.ring.play with ended := true } d2
  else d

/-- The lowest CHECKED segment becomes CONF_OUT, if there is one (R16). -/
def takeChecked (d : Device) : Device :=
  match (lowestIn .checked d).bind (fun n => heldIn .checked n d) with
  | some r => setConf { running := true, position := { segment := r.number, offset := 0 } } (enterConfOut r d)
  | none => setConf { d.ring.conf with running := false } d

/-- A STOPPED confidence playout looks for CHECKED slots (R16). -/
def confStart (d : Device) : Device := if d.ring.conf.running then d else takeChecked d

/-- The end of the CONF_OUT segment (R17). -/
def confSegmentEnd (d : Device) : Device :=
  if d.ring.conf.running = true ∧ 480 ≤ d.ring.conf.position.offset then
    takeChecked (freeSlot d.ring.conf.position.segment d)
  else d

/-! ### The recorder and the fill (R15, R26 to R28) -/

/-- The recorder in IDLE; the program setting is kept (R28). -/
def idleRecorder (r : Recorder) : Recorder := { Recorder.initial with program := r.program }

/-- Slots in the states named become FREE, rising (R19). -/
def freeStates (l : List SlotState) (d : Device) : Device := freeSlots (segmentsWhere (fun r => l.contains r.state) d) d

/-- The mode leaves RECORD for PLAY: a FILL slot is freed and the recorder is IDLE (R19, R28). -/
def leaveRecord (d : Device) : Device :=
  let d1 := freeStates [.fill] d
  (d1.setRecorder (idleRecorder d1.recorder)).setPort { d1.port with mode := .play }

/-- RECORD mode ends at the last segment number (R27). -/
def numberLimit (d : Device) : Device := raise (.modeChange .play .numberLimit) (leaveRecord d)

/-- The origin a feed source gives a fill (R31). -/
def originOf : Source → Origin
  | .lineIn => .line
  | .linkRx _ => .link
  | _ => .silence

/-- The record of a fill (R2, R15). -/
def fillSegment (n : Nat) (mark : Bool) : Segment :=
  { freshSegment n .fill with new := some (List.replicate 480 none), gate := some .openCopy, indexRequest := mark }

/-- The start of the fill of segment `n` (R15, R26, R114). -/
def startFill (n : Nat) (source : Source) (d : Device) : Device :=
  let d1 := setRecordedRun none (d.setRecorder { d.recorder with fillOrigin := some (originOf source) })
  match slotOf n d1 with
  | none =>
    let d2 := putSegment (fillSegment n d1.recorder.markOwed) d1
    d2.setRecorder { d2.recorder with markOwed := false }
  | some _ => raise (.ringOverrun .fill n none .noFillSlot) d1

/-- One pair of the fill stored and latched, where the fill holds its slot (R15, R121). -/
def storeFill (pos : Position) (feed : Feed) (d : Device) : Device :=
  match heldIn .fill pos.segment d with
  | some _ =>
    latchGate pos.segment feed.source feed.supplied.status
      (updateSegment pos.segment (fun r => { r with
        new := r.new.map (fun a => a.set pos.offset (some feed.supplied.pair)) }) d)
  | none => d

/-- The end of a fill: sealing, and the next fill or the number limit (R26, R27, R30; log 24). -/
def recordSealing (d : Device) : Device :=
  match d.recorder.state, d.recorder.fill with
  | .filling, some pos =>
    if 480 ≤ pos.offset then
      let d1 := sealRecord pos.segment d
      if pos.segment < lastSegment then
        d1.setRecorder { d1.recorder with fill := some { segment := pos.segment + 1, offset := 0 } }
      else numberLimit d1
    else d
  | _, _ => d

/-- One period of the fill (R26). -/
def fillPeriod (feed : Feed) (d : Device) : Device :=
  match d.recorder.state, d.recorder.fill with
  | .filling, some pos =>
    if pos.offset < 480 then
      let d1 := if pos.offset = 0 then startFill pos.segment feed.source d else d
      let d2 := storeFill pos feed d1
      d2.setRecorder { d2.recorder with fill := some { pos with offset := pos.offset + 1 } }
    else d
  | _, _ => d

/-- Every segment end that is due: the play playout's, the confidence playout's and the fill's, in this order (the model's
choice, log 29). -/
def settleEnds (d : Device) : Device := recordSealing (confSegmentEnd (playSegmentEnd d))

/-! ### Commands -/

/-- PREFILL_ENTRY (R8). -/
def execPrefillEntry (s : State) : Host.Outcome State Fault Refusal := .next { s with dev := prefillEntry s.dev }

/-- PLAY_PLAYOUT_START (R9): the test of PREFILL. -/
def execPlayPlayoutStart (s : State) : Host.Outcome State Fault Refusal := .next { s with dev := prefillTest s.dev }

/-- PLAY_SEGMENT_END (R11). -/
def execPlaySegmentEnd (s : State) : Host.Outcome State Fault Refusal := .next { s with dev := playSegmentEnd s.dev }

/-- CONFIDENCE_PLAYOUT_START (R16). -/
def execConfidencePlayoutStart (s : State) : Host.Outcome State Fault Refusal :=
  .next { s with dev := confStart s.dev }

/-- CONFIDENCE_SEGMENT_END (R17). -/
def execConfidenceSegmentEnd (s : State) : Host.Outcome State Fault Refusal :=
  .next { s with dev := confSegmentEnd s.dev }

/-- RECORD_SEALING (R30). -/
def execRecordSealing (s : State) : Host.Outcome State Fault Refusal := .next { s with dev := recordSealing s.dev }

/-- INSERT_FADE_IN_END (R97). -/
def execInsertFadeInEnd (s : State) : Host.Outcome State Fault Refusal := .next { s with dev := insertFadeInEnd s.dev }

/-- INSERT_FADE_OUT_END (R98). -/
def execInsertFadeOutEnd (s : State) : Host.Outcome State Fault Refusal :=
  .next { s with dev := insertFadeOutEnd s.dev }

end Sys2Proof.Machine
end

