-- ==== Sys2Proof/Machine/Decoding.lean ====
section
/-! DEFINITION. Stripe arrivals, correction, closing and the Search Unit (03), with the ring's taking of stripes (R4 to
R6). -/

namespace Sys2Proof.Machine

open Sys2Proof

/-! ### Correction (R50, R51) -/

/-- The inner outcomes of a block (R50). -/
inductive InnerOutcome where
  | clean | mended | bad
  deriving DecidableEq, Repr

/-- The outcome of the inner check (R50; log 5). -/
def innerOutcome : BlockRecord → InnerOutcome
  | .absent _ => .bad
  | .present _ _ .sound => .clean
  | .present _ _ (.oneDamaged _) => .mended
  | .present _ _ (.heavier _) => .bad

/-- The content a CLEAN or MENDED block gives (R50). -/
def innerContent : BlockRecord → Option (List Byte)
  | .absent _ => none
  | .present data _ .sound => some data
  | .present _ _ (.oneDamaged corrected) => some corrected
  | .present _ _ (.heavier _) => none

/-- The content the outer code gives a BAD block where it can rebuild it (R51; log 5). -/
def rebuiltContent : BlockRecord → List Byte
  | .absent rebuilt => rebuilt
  | .present _ _ (.heavier rebuilt) => rebuilt
  | .present data _ _ => data

/-- A block that came out BAD. -/
def isBad (b : BlockRecord) : Bool := innerOutcome b == .bad

/-- The outer code can rebuild: four or fewer BAD blocks among blocks 0 to 35 (R51). -/
def outerRebuilds (blocks : List BlockRecord) : Bool := decide ((blocks.take 36).countP isBad ≤ 4)

/-- The content of a data block after both codes; none where it is lost (R51). -/
def decodedContent (rebuilds : Bool) (b : BlockRecord) : Option (List Byte) :=
  match innerContent b with
  | some c => some c
  | none => if rebuilds then some (rebuiltContent b) else none

/-- The tallies of a decode (R51). -/
def decodeTally (blocks : List BlockRecord) : Tally :=
  let badData := (blocks.take 32).countP isBad
  { mended := (blocks.take 38).countP (fun b => innerOutcome b == .mended)
    recovered := if outerRebuilds blocks then badData else 0
    lost := if outerRebuilds blocks then 0 else badData }

/-- A decoded sample: from the place R22 gives it, or value 0 and LOST (R51). -/
def decodedSample (contents : List (Option (List Byte))) (index : Nat) : OldSample :=
  match contents.getD (index % 32) none with
  | some c => { value := BitVec.ofNat 24 (ofOctets (field (3 * (index / 32)) 3 c)), good := true, mark := none }
  | none => { value := 0, good := false, mark := none }

/-- Whether a stripe's sample at a pair index is the left one (R21). -/
def carriesLeft (head : Head) (index : Nat) : Bool :=
  match head with
  | .a => index % 2 == 0
  | .b => index % 2 == 1

/-- A stripe's samples written into an old audio field (R3, R6, R21). -/
def writeStripe (head : Head) (blocks : List BlockRecord) (audio : List OldPair) : List OldPair :=
  let contents := (blocks.take 32).map (decodedContent (outerRebuilds blocks))
  audio.zipIdx.map (fun x =>
    let s := decodedSample contents x.2
    if carriesLeft head x.2 then { x.1 with left := s } else { x.1 with right := s })

/-! ### Numbering (R44, R45) -/

/-- The subcode a block gives: its inner content judged by R196. -/
def blockSubcode (b : BlockRecord) : Option Subcode := (innerContent b).bind readSubcode

/-- The VALID subcode of a stripe: block 36 if it passes, else block 37 (R44). -/
def stripeSubcode (blocks : List BlockRecord) : Option Subcode :=
  ((blocks[36]?).bind blockSubcode).or ((blocks[37]?).bind blockSubcode)

/-- The expectation of a stream (R45). -/
def expectationOf (st : TapeStream) (d : Device) : Option Expectation :=
  match st with | .advance => d.decoder.advance | .confidence => d.decoder.confidence

/-- Set the expectation of a stream (R45). -/
def setExpectation (st : TapeStream) (e : Expectation) (d : Device) : Device :=
  match st with
  | .advance => d.setDecoder { d.decoder with advance := some e }
  | .confidence => d.setDecoder { d.decoder with confidence := some e }

/-- The number an expectation gives an arriving head; none past the last segment (R44). -/
def expectedNumber (e : Expectation) (head : Head) : Option Nat :=
  if e.head = .a ∧ head = .b then some e.segment
  else if e.segment < lastSegment then some (e.segment + 1) else none

/-- The number of a stripe (R44). -/
def stripeNumber (st : TapeStream) (head : Head) (x : Option Subcode) (d : Device) : Option Nat :=
  match x with
  | some x => some x.segment
  | none => (expectationOf st d).bind (fun e => expectedNumber e head)

/-! ### The Search Unit (R60 to R63) -/

/-- Two octets agree in every bit set in a mask. -/
def maskedEqual (value code mask : Byte) : Bool := (value &&& mask) == (code &&& mask)

/-- A subcode record matches a pattern (R60). -/
def patternMatches (p : Pattern) (x : Subcode) : Bool :=
  maskedEqual p.programValue (BitVec.ofNat 8 (x.program.getD 255)) p.programMask &&
  (!p.indexCompared || x.indexMark == p.indexValue) &&
  maskedEqual p.stationValue (BitVec.ofNat 8 x.station) p.stationMask &&
  (List.range 4).all (fun i =>
    maskedEqual (p.labelValues.getD i 0) (x.label.getD i 0) (p.labelMasks.getD i 0)) &&
  (!p.segmentEnabled || decide (p.segmentValue ≤ x.segment))

/-- The pattern of a number. -/
def patternAt (i : Nat) (d : Device) : Pattern := d.search.patterns.getD i Pattern.initial

/-- Store a pattern. -/
def putPattern (i : Nat) (p : Pattern) (d : Device) : Device :=
  d.setSearch { d.search with patterns := d.search.patterns.set i p }

/-- A hit of a pattern at segment `s` (R63). -/
def patternHit (i s : Nat) (d : Device) : Device :=
  searchHit i s (raise (.searchHit i s)
    (putPattern i { patternAt i d with matches_ := 0, enabled := false, lastHit := some s } d))

/-- The comparison of a subcode with one pattern (R62, R63). -/
def comparePattern (x : Subcode) (s : Nat) (d : Device) (i : Nat) : Device :=
  let p := patternAt i d
  if p.enabled then
    (if patternMatches p x then
      (if p.count ≤ p.matches_ + 1 then patternHit i s d else putPattern i { p with matches_ := p.matches_ + 1 } d)
     else putPattern i { p with matches_ := 0 } d)
  else d

/-- The awaited segment is settled as invalid: every enabled pattern's match count becomes 0 (R62). -/
def settleAwaited (s : Nat) (d : Device) : Device :=
  match d.search.awaiting with
  | some a =>
    if a = s then d
    else d.setSearch { d.search with
      awaiting := none
      patterns := d.search.patterns.map (fun p => if p.enabled then { p with matches_ := 0 } else p) }
  | none => d

/-- The Search Unit takes a numbered advance stripe (R62). -/
def searchStripe (s : Nat) (x : Option Subcode) (d : Device) : Device :=
  if d.search.compared = some s then d
  else
    match x with
    | some x =>
      let d1 := (List.range 4).foldl (comparePattern x s) (settleAwaited s d)
      d1.setSearch { d1.search with compared := some s, awaiting := none }
    | none =>
      let d1 := settleAwaited s d
      d1.setSearch { d1.search with awaiting := some s }

/-! ### Closing (R55, R56) -/

/-- The taken flag of a head and stream. -/
def takenFlag (st : TapeStream) (head : Head) (r : Segment) : Bool :=
  match st, head with
  | .advance, .a => r.advanceA
  | .advance, .b => r.advanceB
  | .confidence, .a => r.confidenceA
  | .confidence, .b => r.confidenceB

/-- Set the taken flag of a head and stream. -/
def setTaken (st : TapeStream) (head : Head) (r : Segment) : Segment :=
  match st, head with
  | .advance, .a => { r with advanceA := true }
  | .advance, .b => { r with advanceB := true }
  | .confidence, .a => { r with confidenceA := true }
  | .confidence, .b => { r with confidenceB := true }

/-- A taken stripe of the record is outstanding: its stripe is in the queue (R48). -/
def outstanding (st : TapeStream) (head : Head) (r : Segment) (d : Device) : Bool :=
  takenFlag st head r &&
    d.decoder.queue.any (fun q => q.stream == st && q.segment == r.number && q.head == head)

/-- The stream has moved past segment `n` (R55). -/
def streamPast (st : TapeStream) (n : Nat) (d : Device) : Bool :=
  match expectationOf st d with
  | some e => decide (n < e.segment)
  | none => false

/-- The closing rule (R55, R56). -/
def closes (st : TapeStream) (r : Segment) (d : Device) : Bool :=
  !outstanding st .a r d && !outstanding st .b r d &&
    ((takenFlag st .a r && takenFlag st .b r) || streamPast st r.number d)

/-- The confidence decode of a head has been stored: its stripe was taken, is no longer outstanding, and its completion
was not discarded for the late flag of a segment taken over (R6, R12). -/
def decodeStored (head : Head) (r : Segment) (d : Device) : Bool :=
  takenFlag .confidence head r && !outstanding .confidence head r d && !r.late

/-- The lost blocks R56 adds at a closing to CHECKED: 32 for each stripe whose decode was not stored. -/
def missingBlocks (r : Segment) (d : Device) : Nat :=
  (if decodeStored .a r d then 0 else 32) + (if decodeStored .b r d then 0 else 32)

/-- A completed lost tally reaches the linked entry (R103). -/
def addVerifyTally (p lost : Nat) (d : Device) : Device :=
  updateResult p (fun x =>
    { x with
      tally := min 255 (x.tally + lost)
      weak := x.weak || decide ((cfg d).verifyLimit < min 255 (x.tally + lost)) }) d

/-- A VERIFY slot closes to CHECKED (R56, R57). -/
def closeChecked (n : Nat) (d : Device) : Device :=
  match heldIn .verify n d with
  | none => d
  | some r =>
    let lost := min 255 (r.confidenceTally.lost + missingBlocks r d)
    let d1 := putSegment
      { r with state := .checked, confidenceTally := { r.confidenceTally with lost := lost } } d
    match r.editLink with
    | some p => addVerifyTally p lost d1
    | none => d1

/-- The closing test of a GATHER slot (R55). -/
def testGather (n : Nat) (d : Device) : Device :=
  match heldIn .gather n d with
  | some r => if closes .advance r d then putSegment { r with state := .decoded } d else d
  | none => d

/-- The closing test of a VERIFY slot (R56). -/
def testVerify (n : Nat) (d : Device) : Device :=
  match heldIn .verify n d with
  | some r => if closes .confidence r d then closeChecked n d else d
  | none => d

/-- The state a stripe of a stream is taken for (R6). -/
def takenState : TapeStream → SlotState
  | .advance => .gather
  | .confidence => .verify

/-- The closing test of a stream's slot (R53). -/
def testClosing (st : TapeStream) (n : Nat) (d : Device) : Device :=
  match st with | .advance => testGather n d | .confidence => testVerify n d

/-- The later-segment closing at a numbered arrival for segment `s` (R55, R56). -/
def laterClosing (st : TapeStream) (s : Nat) (d : Device) : Device :=
  (segmentsWhere (fun r => r.state == takenState st && decide (r.number < s)) d).foldl
    (fun acc n => testClosing st n acc) d

/-! ### The decoder queue (R47, R48) -/

/-- A decode starts where none is in flight and the queue holds a stripe (R48). -/
def startDecode (d : Device) : Device :=
  if d.decoder.inFlight = false ∧ d.decoder.queue ≠ [] then d.setDecoder { d.decoder with inFlight := true } else d

/-- The stream of a RING_OVERRUN. -/
def overrunStream : TapeStream → OverrunStream
  | .advance => .advance
  | .confidence => .confidence

/-- The ring offers a stripe: taken, with the change of its slot, or refused for a full queue (R47). -/
def offerStripe (q : QueuedStripe) (taken : Device → Device) (d : Device) : Device :=
  if d.decoder.queue.length < 4 then
    startDecode (taken (d.setDecoder { d.decoder with queue := d.decoder.queue ++ [q] }))
  else raise (.ringOverrun (overrunStream q.stream) q.segment (some q.head) .queueFull) d

/-- The record of a GATHER slot at its first stripe (R2). -/
def gatherSegment (n : Nat) (head : Head) : Segment :=
  setTaken .advance head { freshSegment n .gather with old := some lostAudio }

/-- The play playout has passed segment `n`, or plays it with no slot (R4). -/
def behindPlayout (n : Nat) (d : Device) : Bool :=
  d.ring.play.state == .running &&
    (decide (n < d.ring.play.position.segment) ||
      (n == d.ring.play.position.segment && (playSegment d).isNone))

/-- An advance stripe at the ring (R4). -/
def ringAdvance (q : QueuedStripe) (d : Device) : Device :=
  let n := q.segment
  if d.port.motion ≠ .playing ∨ d.port.mode = .record ∨ behindPlayout n d = true then d
  else
    match slotOf n d with
    | none => offerStripe q (putSegment (gatherSegment n q.head)) d
    | some r =>
      if r.number = n ∧ r.state = .gather then
        (if takenFlag .advance q.head r then d else offerStripe q (putSegment (setTaken .advance q.head r)) d)
      else raise (.ringOverrun .advance n (some q.head) .slotHeld) d

/-- A confidence stripe at the ring (R5). -/
def ringConfidence (q : QueuedStripe) (d : Device) : Device :=
  match held q.segment d with
  | none => d
  | some r =>
    match r.state with
    | .written =>
      offerStripe q (putSegment (setTaken .confidence q.head { r with state := .verify, old := some lostAudio })) d
    | .verify =>
      if takenFlag .confidence q.head r then d
      else offerStripe q (putSegment (setTaken .confidence q.head r)) d
    | _ => d

/-- The late flag of the slot of segment number `n` (R6). -/
def slotLate (n : Nat) (d : Device) : Bool := ((slotOf n d).map (·.late)).getD false

/-- A stripe arrival (R44, R46). -/
def stripeArrives (st : TapeStream) (head : Head) (blocks : List BlockRecord) (d : Device) : Device :=
  let x := stripeSubcode blocks
  if d.resetHeld = true ∨ configured d = false then d
  else
    match stripeNumber st head x d with
    | none => d
    | some n =>
      let q : QueuedStripe :=
        { stream := st, segment := n, head := head, subcode := x, blocks := blocks, lateSeen := slotLate n d }
      let d1 := setExpectation st { segment := n, head := head } d
      match st with
      | .advance => ringAdvance q (laterClosing .advance n (searchStripe n x d1))
      | .confidence => ringConfidence q (laterClosing .confidence n d1)

/-! ### Decode completion (R53) -/

/-- A tally joins a slot's tally, each part saturating at 255 (01, The segment record). -/
def addTally (x y : Tally) : Tally :=
  { mended := min 255 (x.mended + y.mended), recovered := min 255 (x.recovered + y.recovered)
    lost := min 255 (x.lost + y.lost) }

/-- The playback whose counters a stream's decodes raise (R59). -/
def countersStream : TapeStream → Playback
  | .advance => .play
  | .confidence => .confidence

/-- The block counters of a decode (R59), raised in the order mended, recovered, lost: where more than one passes its
threshold, the latched detail is the last one's (the model's choice, log 31). -/
def countDecode (st : TapeStream) (t : Tally) (d : Device) : Device :=
  let s := countersStream st
  countUp s .lost t.lost (countUp s .recovered t.recovered (countUp s .mended t.mended d))

/-- A stored completion at its record (R6). -/
def storedRecord (q : QueuedStripe) (r : Segment) : Segment :=
  let t := decodeTally q.blocks
  let r1 : Segment := { r with
    old := r.old.map (writeStripe q.head q.blocks)
    subcode := if r.valid then r.subcode else q.subcode.or r.subcode
    valid := r.valid || q.subcode.isSome }
  match q.stream with
  | .advance => { r1 with advanceTally := addTally r.advanceTally t }
  | .confidence => { r1 with confidenceTally := addTally r.confidenceTally t }

/-- The ring judges a completion (R6), with the closing test (R53): it is discarded where the slot's late flag is set or
has been set since the stripe was taken (log 20). -/
def judgeCompletion (q : QueuedStripe) (d : Device) : Device :=
  match heldIn (takenState q.stream) q.segment d with
  | some r =>
    if q.lateSeen || r.late then d else testClosing q.stream q.segment (putSegment (storedRecord q r) d)
  | none => d

/-- The decode in flight completes, and the next starts (R48, R53). -/
def completeDecode (d : Device) : Device :=
  match d.decoder.inFlight, d.decoder.queue with
  | true, q :: rest =>
    startDecode (judgeCompletion q (countDecode q.stream (decodeTally q.blocks)
      (d.setDecoder { d.decoder with queue := rest, inFlight := false })))
  | _, _ => d

/-! ### Commands -/

/-- ADVANCE_STRIPE_ARRIVAL (R44, R46, R4). -/
def execAdvanceStripeArrival (head : Head) (blocks : List BlockRecord) (s : State) :
    Host.Outcome State Fault Refusal :=
  .next { s with dev := stripeArrives .advance head blocks s.dev }

/-- CONFIDENCE_STRIPE_ARRIVAL (R44, R46, R5). -/
def execConfidenceStripeArrival (head : Head) (blocks : List BlockRecord) (s : State) :
    Host.Outcome State Fault Refusal :=
  .next { s with dev := stripeArrives .confidence head blocks s.dev }

/-- DECODE_START (R48). -/
def execDecodeStart (s : State) : Host.Outcome State Fault Refusal := .next { s with dev := startDecode s.dev }

/-- DECODE_COMPLETION (R53). -/
def execDecodeCompletion (s : State) : Host.Outcome State Fault Refusal :=
  .next { s with dev := completeDecode s.dev }

end Sys2Proof.Machine
end

