-- ==== Sys2Proof/Machine/Windows.lean ====
section
/-! DEFINITION. Write windows (R25, R39 to R42), stranding (R7) and confidence deadlines (R57). -/

namespace Sys2Proof.Machine

open Sys2Proof

/-- The answer the head channel takes. -/
def answerWindow (x : WindowAnswer) (d : Device) : Device := d.setOutputs { d.outputs with window := some x }

/-- A stripe of a record, where it has one. -/
def stripeAnswer (head : Head) (r : Segment) : WindowAnswer :=
  match r.stripes, head with
  | some x, .a => .stripe x.a
  | some x, .b => .stripe x.b
  | none, _ => .noWrite

/-- The encode of segment `n` is in flight. -/
def encodeInFlight (n : Nat) (d : Device) : Bool := d.encoder.inFlight.map EncodeJob.segment == some n

/-- The answer and effect of a head A window at its slot (R40). -/
def windowA (n : Nat) (d : Device) : Device :=
  match held n d with
  | none => answerWindow .noWrite d
  | some r =>
    match r.state with
    | .encoded =>
      if r.writtenA then answerWindow .noWrite d
      else answerWindow (stripeAnswer .a r) (putSegment { r with writtenA := true } d)
    | .fill => answerWindow .noWrite (writeLate n d)
    | .encoding =>
      if encodeInFlight n d then answerWindow .noWrite (writeLate n d)
      else answerWindow .noWrite (freeSlot n (writeLate n d))
    | _ => answerWindow .noWrite d

/-- One stranded slot: ENCODED with stripe A not written (R7). -/
def strand (d : Device) (n : Nat) : Device :=
  match heldIn .encoded n d with
  | some r => if r.writtenA then d else freeSlot n (writeLate n d)
  | none => d

/-- Every slot below `w` that is ENCODED with stripe A not written is stranded (R7, R40). -/
def strandBelow (w : Nat) (d : Device) : Device :=
  (segmentsWhere (fun r => r.state == .encoded && !r.writtenA && decide (r.number < w)) d).foldl strand d

/-- A slot freed without a confidence read: UNVERIFIED at the linked entry (R57, R102). -/
def freeUnverified (n : Nat) (r : Segment) (d : Device) : Device :=
  freeSlot n (match r.editLink with
    | some p => updateResult p (fun x => { x with unverified := true }) d
    | none => d)

/-- The confidence deadline of one slot (R57). -/
def deadline (d : Device) (n : Nat) : Device :=
  match held n d with
  | none => d
  | some r =>
    match r.state with
    | .written => freeUnverified n r d
    | .encoded => if r.writtenA then freeUnverified n r d else d
    | .verify => closeChecked n d
    | _ => d

/-- The confidence deadline of every slot holding a segment with n + C + 1 ≤ w (R57). -/
def deadlines (w : Nat) (d : Device) : Device :=
  (segmentsWhere (fun r => decide (r.number + (cfg d).confidence + 1 ≤ w)) d).foldl deadline d

/-- The origin window (R25, R27). -/
def fixOrigin (n : Nat) (d : Device) : Device :=
  if d.recorder.state = .awaitOrigin then
    (if n + 2 ≤ lastSegment then
      d.setRecorder { d.recorder with
        state := .filling, origin := some n, fill := some { segment := n + 2, offset := 0 } }
     else numberLimit d)
  else d

/-- WRITE_WINDOW head A: the answer, the horizon, stranding, deadlines and the origin (R40, R39, R7, R57, R25). All
strandings come before all deadlines (the model's choice, log 11). -/
def takeWindowA (n : Nat) (d : Device) : Device :=
  if d.resetHeld = true ∨ configured d = false then answerWindow .noWrite d
  else
    let d1 := windowA n d
    fixOrigin n (deadlines n (strandBelow n (d1.setEncoder { d1.encoder with horizon := some n })))

/-- WRITE_WINDOW head B (R41). -/
def takeWindowB (n : Nat) (d : Device) : Device :=
  if d.resetHeld = true ∨ configured d = false then answerWindow .noWrite d
  else
    match heldIn .encoded n d with
    | some r =>
      if r.writtenA then
        answerWindow (stripeAnswer .b r)
          (putSegment { r with writtenB := true, state := .written, stripes := none } d)
      else answerWindow .noWrite d
    | none => answerWindow .noWrite d

/-! ### Commands -/

/-- WRITE_WINDOW_HEAD_A (R40). -/
def execWriteWindowHeadA (segment : Nat) (s : State) : Host.Outcome State Fault Refusal :=
  .next { s with dev := takeWindowA segment s.dev }

/-- WRITE_WINDOW_HEAD_B (R41). -/
def execWriteWindowHeadB (segment : Nat) (s : State) : Host.Outcome State Fault Refusal :=
  .next { s with dev := takeWindowB segment s.dev }

end Sys2Proof.Machine
end

