-- ==== Sys2Proof/Machine/Period.lean ====
section
/-! DEFINITION. One word reference period: the link frame, the Router's transfer, the fill and the pairs of both playouts
(R130, R168, R169). Where the manual leaves an order open the period's operand gives it (log 3). -/

namespace Sys2Proof.Machine

open Sys2Proof

/-! ### Sources and destinations (R115 to R119, R166, R168) -/

/-- What the sources that run in the device give in a period. -/
structure Supply where
  line : Pair
  received : List Pair
  tape : Supplied
  confidence : Supplied
  deriving DecidableEq, Repr

/-- The pair and status of LINK_RX `k` (R116, R166). An entry HELD when its samples were read and FREE at the transfer gives
silence (the model's choice between R166 and R116, R171: log 30). -/
def linkSupplied (k : Nat) (received : List Pair) (d : Device) : Supplied :=
  if (slotEntry k d).owner.isSome then { pair := received.getD k silentPair, status := linkStatus k d } else silence

/-- The pair and status of a source (R115 to R118, R168). -/
def supplied (x : Source) (u : Supply) (d : Device) : Supplied :=
  match x with
  | .lineIn => { pair := u.line, status := (cfg d).original }
  | .tape => u.tape
  | .confidence => u.confidence
  | .linkRx k => linkSupplied k u.received d
  | .silence => silence

/-- The sources as they stand before the playouts deliver. -/
def supplyBefore (line : Pair) (received : List Pair) (d : Device) : Supply :=
  { line := line, received := received
    tape := { pair := silentPair, status := tapeStatusNow d }
    confidence := { pair := silentPair, status := confidenceStatus d } }

/-- The feed of a period (R119): TAPE and CONFIDENCE cannot feed RECORD_FEED. -/
def feedOf (line : Pair) (received : List Pair) (d : Device) : Feed :=
  let x := sourceFor .recordFeed d
  { source := x, supplied := supplied x { line := line, received := received, tape := silence, confidence := silence } d }

/-! ### Delivery and transfer -/

/-- The peak meters take the pairs of MAIN_OUT and MONITOR_OUT (R169). -/
def meter (main monitor : Pair) (d : Device) : Device :=
  d.setRouter { d.router with
    mainLeft := max d.router.mainLeft (magnitude main.left)
    mainRight := max d.router.mainRight (magnitude main.right)
    monitorLeft := max d.router.monitorLeft (magnitude monitor.left)
    monitorRight := max d.router.monitorRight (magnitude monitor.right) }

/-- MAIN_OUT and MONITOR_OUT take their pairs (R168, R169). -/
def transferOutputs (u : Supply) (d : Device) : Device :=
  let main := (supplied (sourceFor .mainOut d) u d).pair
  let monitor := (supplied (sourceFor .monitorOut d) u d).pair
  meter main monitor (d.setOutputs { d.outputs with main := main, monitor := monitor })

/-- What the Router gives LINK_TX `k` (R168). -/
def slotSupply (u : Supply) (d : Device) (k : Nat) : Supplied := supplied (sourceFor (.linkTx k) d) u d

/-- The feed of the last period as STATUS_READ returns it (R129). -/
def noteFeed (f : Feed) (d : Device) : Device :=
  d.setGate { d.gate with feedSource := f.source, feedStatus := f.supplied.status }

/-- The playouts deliver, the fill takes its pair and the Router moves its pairs: the device, and what each LINK_TX
takes. The play playout delivers before the confidence playout, and a fill that starts claims its slot before the end of a
CONF_OUT segment that falls in the same period (the model's choices, log 29). -/
def deliver (line : Pair) (received : List Pair) (d : Device) : Device × Supply × List Supplied :=
  let feed := feedOf line received d
  let p := playPeriod feed (noteFeed feed d)
  let c := confPeriod p.1
  let u : Supply := { line := line, received := received, tape := p.2, confidence := c.2 }
  let d1 := transferOutputs u (fillPeriod feed c.1)
  (d1, u, (List.range 12).map (slotSupply u d1))

/-! ### The driven frame (R130, R164) -/

/-- This is a frame with count 0 while ATTACHED. -/
def atFrameZero (d : Device) : Bool := attached d && d.link.frameCount == 0

/-- At the start of a frame with count 0 the misplaced marker flags shift (R135). -/
def shiftMisplaced (d : Device) : Device :=
  if atFrameZero d then
    d.setLink { d.link with misplacedPrevious := d.link.misplacedThis, misplacedThis := false }
  else d

/-- The start of a frame: founding, the flags, the yield and the start of a send (R133, R135, R143 to R145). -/
def openFrame (d : Device) : Device := startFrame (shiftMisplaced (found d))

/-- The slots this station drives in the frame (R164). -/
def drivingSlots (d : Device) : List Bool := (List.range 12).map (fun k => drivesSlot k d)

/-- The latches of frame 0: the status word of each driven slot and the own latch (R126, R165, R174). -/
def latchFrame (u : Supply) (d : Device) : Device :=
  if atFrameZero d then
    latchOwn ((List.range 12).foldl (fun acc k =>
      if drivesSlot k acc then latchSlot k (slotSupply u acc k).status acc else acc) d)
  else d

/-- The parts of one driven slot (R164). -/
def drivenSlot (f : Nat) (word : Option (BitVec 64)) (pair : Pair) : SlotBits :=
  { present := true
    status := match word with
      | some w => wordBit f w
      | none => false
    samples := pair }

/-- The frame this station drives (R130, R164); the pairs are those of the driven slots. -/
def drivenFrame (driving : List Bool) (pairs : List Pair) (d : Device) : Frame :=
  { marker := atFrameZero d
    message := drivenMessageBit d
    slots := (List.range 12).map (fun k =>
      if driving.getD k false then drivenSlot d.link.frameCount (relayOf k d).word (pairs.getD k silentPair)
      else recessiveSlot) }

/-- A pair held back by its relay history (R127). -/
def relayedPair (history : List CopyStatus) (x : Supplied) : Pair :=
  if heldBackBy history x.status then silentPair else x.pair

/-- The pairs of the twelve slots after hold-back (R127), by the histories of the frame. -/
def relayedPairs (histories : List (List CopyStatus)) (xs : List Supplied) : List Pair :=
  (List.range 12).map (fun k => relayedPair (histories.getD k []) (xs.getD k silence))

/-- The relay histories as they stand. -/
def relayHistories (d : Device) : List (List CopyStatus) := (List.range 12).map (fun k => (relayOf k d).history)

/-- Whether each slot still driven was held back in this frame (R129). -/
def noteHeldBack (driving : List Bool) (histories : List (List CopyStatus)) (xs : List Supplied) (d : Device) :
    Device :=
  (List.range 12).foldl (fun acc k =>
    if driving.getD k false && drivesSlot k acc then
      putRelay k { relayOf k acc with
        heldBack := heldBackBy (histories.getD k []) (xs.getD k silence).status } acc
    else acc) d

/-! ### The frame read -/

/-- The bus as this station reads it: its own frame in LOOP, else the frame of the period (R130, R137). -/
def readFrame (own : Frame) (w : Period) (d : Device) : Frame :=
  if (cfg d).linkMode = .loop then own else w.frame

/-- The control part of the frame read; ATTACHED by ALIGN, this frame is a frame 0 for the own latch (R134, R174). -/
def readLink (f : Frame) (drivenBit : Bool) (d : Device) : Device :=
  let d1 := readControl drivenBit f d
  if d.link.attachment = .align ∧ attached d1 = true then latchOwn d1 else d1

/-- What the frame part of a period leaves: the device, the frame it drives but for its pairs, the relay histories of the
frame, and what the LINK_TX destinations take. -/
structure FrameResult where
  dev : Device
  own : Frame
  histories : List (List CopyStatus)
  supplies : List Supplied
  deriving DecidableEq, Repr

/-- Latches, delivery and reading in the order the period gives (log 3). -/
def runFrame (w : Period) (driving : List Bool) (d : Device) : FrameResult :=
  let received := d.link.received
  match w.order.frame with
  | .deliveryFirst =>
    let x := deliver w.lineIn received d
    let d1 := latchFrame x.2.1 x.1
    let own := drivenFrame driving [] d1
    { dev := readLink (readFrame own w d1) own.message d1, own := own, histories := relayHistories d1
      supplies := x.2.2 }
  | .latchFirst =>
    let d1 := latchFrame (supplyBefore w.lineIn received d) d
    let x := deliver w.lineIn received d1
    let own := drivenFrame driving [] x.1
    { dev := readLink (readFrame own w x.1) own.message x.1, own := own, histories := relayHistories d1
      supplies := x.2.2 }
  | .frameFirst =>
    let d1 := latchFrame (supplyBefore w.lineIn received d) d
    let own := drivenFrame driving [] d1
    let x := deliver w.lineIn received (readLink (readFrame own w d1) own.message d1)
    { dev := x.1, own := own, histories := relayHistories d1, supplies := x.2.2 }

/-- A frame with the pairs of its driven slots. -/
def withPairs (driving : List Bool) (pairs : List Pair) (f : Frame) : Frame :=
  { f with slots := f.slots.zipIdx.map (fun x =>
    if driving.getD x.2 false then { x.1 with samples := pairs.getD x.2 silentPair } else x.1) }

/-- The end of the frame: the hold-back noted, the samples kept for the next period, and the frame driven on the external
link, recessive in LOOP (R129, R137, R166). -/
def closeFrame (w : Period) (driving : List Bool) (r : FrameResult) : Device :=
  let own := withPairs driving (relayedPairs r.histories r.supplies) r.own
  let d1 := noteHeldBack driving r.histories r.supplies r.dev
  let d2 := storeReceived (attached d1) (readFrame own w d1) d1
  d2.setOutputs { d2.outputs with driven := if (cfg d2).linkMode = .loop then recessiveFrame else own }

/-! ### The whole period -/

/-- The entries and starts of the playouts in a period (R8, R9, R16). They come before the latch of frame 0, whatever the
order of the frame: a playout that starts in this period is latched as RUNNING (the model's choice, log 29). -/
def startPlayouts (o : PeriodOrder) (d : Device) : Device :=
  confStart (if o.testFirst then prefillEntry (prefillTest d) else prefillTest (prefillEntry d))

/-- The chase's counts, with the holdover's end where it is taken first (R178, R179). -/
def beginChasePeriod (o : PeriodOrder) (d : Device) : Device :=
  if o.expiryFirst then holdoverExpiry (countChasePeriod d) else countChasePeriod d

/-- A period of a configured device. Orders the spec leaves open and the model fixes here (log 29): the starts of the
playouts before the latch of frame 0 (R174); the start of the frame after the starts of the playouts and before the
delivery, so that a report that joins the queue at a start (an entry retired LATE) is counted in this frame's threshold,
and one that joins in the delivery waits for a later frame (R143); the entries that fire in the delivery before
LEAD_SILENT (R181); and the ends that fall in the period after its fill (R17, R26). -/
def runPeriod (w : Period) (d : Device) : Device :=
  let d1 := openFrame (startPlayouts w.order (beginChasePeriod w.order (settleEnds d)))
  let driving := drivingSlots d1
  let d2 := holdoverExpiry (leadSilent (closeFrame w driving (runFrame w driving d1)))
  if w.order.endsApart then d2 else settleEnds d2

/-- The outputs of an unconfigured device, and while RESET is asserted (R168, R193, R130). -/
def quietOutputs (d : Device) : Device :=
  d.setOutputs { d.outputs with main := silentPair, monitor := silentPair, driven := recessiveFrame }

/-- One word reference period. -/
def takePeriod (w : Period) (d : Device) : Device :=
  if d.resetHeld = true ∨ configured d = false then quietOutputs d else runPeriod w d

/-- WORD_REFERENCE_PERIOD (R130). -/
def execWordReferencePeriod (period : Period) (s : State) : Host.Outcome State Fault Refusal :=
  .next { s with dev := takePeriod period s.dev }

end Sys2Proof.Machine
end

