-- ==== Sys2Proof/Machine/Status.lean ====
section
/-! DEFINITION. What the control port's reads return: STATUS_READ's snapshot, SLOTS_READ, ROUTE_READ, the counters and the
meters (R192, R171, R167, R82, R169; 11, Reads). Presence octets as log 17 says. -/

namespace Sys2Proof.Machine

open Sys2Proof

/-- The position of a playout or a fill as its values, segment and offset, of the pair that follows (log 8). -/
def positionOctets (p : Position) : List Byte :=
  octets 3 (normalPosition p).segment ++ octets 2 (normalPosition p).offset

/-- Tallies in their order. -/
def tallyOctets (t : Tally) : List Byte := octets 1 t.mended ++ octets 1 t.recovered ++ octets 1 t.lost

/-- One slot of the slot listing (R20). -/
def ringSlotOctets (r : Option Segment) : List Byte :=
  octets 1 (slotStateCode r) ++ optionNumber 3 (r.map Segment.number) ++
  optionOctets 1 (r.map (fun r => flagOctet r.late)) ++
  optionOctets 3 (r.map (fun r => tallyOctets r.advanceTally)) ++
  optionOctets 3 (r.map (fun r => tallyOctets r.confidenceTally))

/-- Group 1: motion and mode. -/
def deckOctets (d : Device) : List Byte := octets 1 (motionCode d.port.motion) ++ octets 1 (modeCode d.port.mode)

/-- Group 2: the Segment Ring (R20). The confidence playout's position is the segment it is in with the offset as it
stands, 480 while the segment's end is due: the next segment need not be n + 1 (R17; log 8). -/
def ringOctets (d : Device) : List Byte :=
  octets 1 (playStateCode d.ring.play.state) ++ positionOctets d.ring.play.position ++
  flagOctet d.ring.conf.running ++
  optionOctets 5 (if d.ring.conf.running then
    some (octets 3 d.ring.conf.position.segment ++ octets 2 d.ring.conf.position.offset) else none) ++
  d.ring.slots.flatMap ringSlotOctets

/-- Group 3: recording and encoding (R43). -/
def recordingOctets (d : Device) : List Byte :=
  octets 1 (recorderCode d.recorder.state) ++ optionNumber 3 d.recorder.origin ++
  optionOctets 5 (d.recorder.fill.map positionOctets) ++ flagOctet d.recorder.markOwed ++
  octets 1 (d.recorder.program.getD 255) ++ optionNumber 3 (d.encoder.inFlight.map EncodeJob.segment) ++
  optionNumber 3 d.encoder.horizon

/-- An expectation. -/
def expectationOctets (e : Expectation) : List Byte := octets 3 e.segment ++ octets 1 (headCode e.head)

/-- The decode in flight. -/
def decodeInFlight (d : Device) : Option QueuedStripe := if d.decoder.inFlight then d.decoder.queue.head? else none

/-- A pattern's enable, match count and last hit. -/
def patternOctets (p : Pattern) : List Byte := flagOctet p.enabled ++ octets 1 p.matches_ ++ optionNumber 3 p.lastHit

/-- Group 4: decoding and search (R64). -/
def decodingOctets (d : Device) : List Byte :=
  octets 1 d.decoder.queue.length ++
  optionOctets 5 ((decodeInFlight d).map (fun q =>
    octets 1 (streamCode q.stream) ++ octets 3 q.segment ++ octets 1 (headCode q.head))) ++
  optionOctets 4 (d.decoder.advance.map expectationOctets) ++
  optionOctets 4 (d.decoder.confidence.map expectationOctets) ++
  flagOctet d.decoder.playCarry.isNone ++ flagOctet d.decoder.confCarry.isNone ++
  d.search.patterns.flatMap patternOctets

/-- A context's state, gain, hold run and recovery run. -/
def contextOctets (x : Context) : List Byte :=
  octets 1 (contextStateCode x.state) ++ octets 2 x.gain ++ octets 1 x.holdRun ++ octets 1 x.recoveryRun

/-- Group 5: concealment (R83). -/
def concealOctets (d : Device) : List Byte :=
  contextOctets d.conceal.playLeft ++ contextOctets d.conceal.playRight ++ contextOctets d.conceal.confLeft ++
  contextOctets d.conceal.confRight ++ octets 1 (cfg d).kernel

/-- The number of places whose entry satisfies `p`. -/
def countEntries (p : Entry → Bool) (d : Device) : Nat :=
  d.edit.places.countP (fun o => (o.map p).getD false)

/-- Group 6: editing (R113). -/
def editOctets (d : Device) : List Byte :=
  octets 1 (seqStateCode d.edit.state) ++ optionNumber 1 (d.edit.phase.map phaseCode) ++ octets 2 d.edit.gain ++
  optionNumber 1 d.edit.insertion ++ optionNumber 1 (headOfWork d) ++ octets 1 d.edit.tail ++ octets 1 d.edit.head ++
  octets 1 (countEntries (fun _ => true) d) ++ octets 1 (countEntries (fun e => e.report == .waiting) d)

/-- A driven slot's latched code and its hold-back (R129). The model sends twelve entries of four octets, in slot order: a
presence octet, the code with its own presence octet, and the hold-back; all zero for a slot not driven (the model's
choice, log 17). -/
def relayOctets (d : Device) (k : Nat) : List Byte :=
  if drivesSlot k d then
    [1] ++ optionNumber 1 ((relayOf k d).history.head?.map copyCode) ++ flagOctet (relayOf k d).heldBack
  else [0, 0, 0, 0]

/-- Group 7: copy (R129). -/
def copyOctets (d : Device) : List Byte :=
  octets 1 (sourceCode d.gate.feedSource) ++ octets 1 (copyCode d.gate.feedStatus) ++
  optionNumber 1 (d.gate.recordedRun.map copyCode) ++ octets 1 (decisionCode d.gate.lastDecision) ++
  octets 1 (copyCode (tapeStatusNow d)) ++ octets 1 (copyCode (confidenceStatus d)) ++
  (List.range 12).flatMap (relayOctets d)

/-- The count R152 names for the attachment state. -/
def attachmentCount (l : Link) : Nat :=
  match l.attachment with
  | .listen => l.listenWait
  | .align => l.alignCount
  | _ => l.frameCount

/-- Group 8: the link (R152). -/
def linkOctets (d : Device) : List Byte :=
  octets 1 (attachmentCode d.link.attachment) ++ octets 1 (attachmentCount d.link) ++
  octets 1 (receiverCode d.link.receiver) ++ octets 1 d.link.quiet ++ octets 1 d.link.yieldCount ++
  octets 1 d.link.echoRun ++ octets 1 d.link.queue.length ++
  optionOctets 4 (d.link.queue.head?.map (fun m =>
    octets 1 m.kind ++ octets 1 m.destination ++ octets 1 m.losses ++ flagOctet m.sent.isSome)) ++
  octets 1 d.link.bad

/-- Group 9: the chase (R182). -/
def chaseOctets (d : Device) : List Byte :=
  let c := d.chase
  octets 1 (chaseStateCode c.state) ++ optionNumber 1 c.leadSlot ++ optionNumber 1 c.leadOwner ++
  optionSigned 5 c.offset ++ signedOctets 2 c.trim ++ optionSigned 5 c.error ++ signedOctets 1 c.correction ++
  octets 1 (windCode c.wind) ++ octets 1 c.lockRun ++
  octets 2 (if c.state = .holdover then c.holdoverCount else c.wordGap) ++
  optionNumber 5 (leadPosition c) ++ optionNumber 5 c.ownLatch

/-- Groups 10 and 11: the table port and the events. -/
def portOctets (d : Device) : List Byte :=
  octets 1 (tableCode d.port.table) ++ octets 1 d.port.address ++ flagOctet d.port.endWritten ++
  eventSetOctets d.events.pending ++ eventSetOctets d.events.enabled

/-- STATUS_READ's data, its groups in the order of R192. -/
def statusOctets (d : Device) : List Byte :=
  deckOctets d ++ ringOctets d ++ recordingOctets d ++ decodingOctets d ++ concealOctets d ++ editOctets d ++
  copyOctets d ++ linkOctets d ++ chaseOctets d ++ portOctets d

/-- One entry of SLOTS_READ (R171). -/
def slotOctets (d : Device) (k : Nat) : List Byte :=
  let e := slotEntry k d
  flagOctet e.owner.isSome ++ optionNumber 1 e.owner ++ octets 1 (copyCode (linkStatus k d)) ++
  optionOctets 6 (e.lastWord.map (fun w =>
    octets 3 w.position.segment ++ octets 2 w.position.offset ++ octets 1 (motionCode w.motion))) ++
  octets 2 e.absence ++ octets 1 e.invalidRun ++ flagOctet e.ownClaim ++ octets 1 (ownReleaseCode e.ownRelease) ++
  optionNumber 1 (if ownsSlot k d then e.drive.map driveCode else none)

/-- SLOTS_READ's data. -/
def slotsOctets (d : Device) : List Byte := (List.range 12).flatMap (slotOctets d)

/-- A route is dormant: it names a LINK_TX slot this station does not drive (R168). -/
def dormant (r : Route) (d : Device) : Bool :=
  match r.destination with
  | .linkTx k => !drivesSlot k d
  | _ => false

/-- The number of the entry that feeds a destination: the highest enabled one that is not dormant (R168). -/
def feedingEntry (dest : Destination) (d : Device) : Option Nat :=
  ((List.range 8).filter (fun i =>
    match d.router.routes[i]? with
    | some r => r.enabled && r.destination == dest && !dormant r d
    | none => false)).getLast?

/-- ROUTE_READ's data (R167). -/
def routeOctets (i : Nat) (r : Route) (d : Device) : List Byte :=
  octets 1 (sourceCode r.source) ++ octets 1 (destinationCode r.destination) ++ flagOctet r.enabled ++
  flagOctet (dormant r d) ++ flagOctet (feedingEntry r.destination d == some i)

/-- COUNTERS_READ's data (R82). -/
def counterOctets (c : CounterSet) : List Byte :=
  octets 2 c.mended ++ octets 2 c.recovered ++ octets 2 c.lost ++ octets 2 c.concealed ++ octets 2 c.mutes

/-- PEAKS_READ's data (R169). -/
def peakOctets (r : Router) : List Byte :=
  octets 3 r.mainLeft ++ octets 3 r.mainRight ++ octets 3 r.monitorLeft ++ octets 3 r.monitorRight

/-- EVENT_DETAIL's data: a presence octet and the detail (R190, R197). -/
def detailData (kind : Nat) (d : Device) : List Byte :=
  optionOctets (detailLength kind) ((d.events.details.getD kind none).map detailOctets)

end Sys2Proof.Machine
end

