-- ==== Sys2Proof/Machine/Port.lean ====
section
/-! DEFINITION. The Control Port (10): the exchange, every command frame, and the resets. -/

namespace Sys2Proof.Machine

open Sys2Proof

/-! ### The exchange (R183, R184) -/

/-- The response is formed and the transaction goes to RESPONSE (R183). -/
def respond (x : Device × Response) : Device :=
  x.1.setPort { x.1.port with transaction := .response, response := some x.2 }

/-- The octets of the frame as clocked in (R183). -/
def clockIn (code : Byte) (args : List Byte) (d : Device) : Device :=
  d.setPort { d.port with octets := code :: BitVec.ofNat 8 args.length :: args }

/-- A complete frame for a code that names a command, judged in the order of R184; `rule` is the command's own rule.
Outside a transaction in COMMAND nothing is taken (R183, R193). -/
def takeCommand (code : Byte) (length : Nat) (args : List Byte) (rule : Device → Device × Response) (d : Device) :
    Device :=
  if d.resetHeld = true ∨ d.port.transaction ≠ .command then d
  else
    let d1 := clockIn code args d
    if configured d = false ∧ code ≠ 1 then respond (d1, answer .notConfigured)
    else if args.length ≠ length then respond (d1, answer .badArg)
    else respond (rule d1)

/-- A code that names no command (R184). -/
def takeUnknown (code : Byte) (args : List Byte) (d : Device) : Device :=
  if d.resetHeld = true ∨ d.port.transaction ≠ .command then d
  else respond (clockIn code args d, answer .badArg)

/-- CPSEL asserted (R183); ignored while RESET is asserted (R193). -/
def assertSelect (d : Device) : Device :=
  if d.resetHeld then d
  else d.setPort { d.port with transaction := .command, octets := [], response := none }

/-- CPSEL released (R183). -/
def releaseSelect (d : Device) : Device :=
  if d.resetHeld then d else d.setPort { d.port with transaction := .idle, response := none }

/-! ### Configuration (R185) -/

/-- The block is accepted: the generator is seeded and the Link Port leaves OFF (R37, R132, R185). -/
def acceptConfiguration (c : Configuration) (d : Device) : Device :=
  let d1 := d.setConfig (some c)
  startLink (d1.setEncoder { d1.encoder with generator := BitVec.ofNat 32 (c.station + 1) })

/-- CONFIGURE (R185). -/
def configureRule (args : List Byte) (d : Device) : Device × Response :=
  if configured d then (d, refusedFor .alreadyConfigured)
  else
    match readConfiguration args with
    | none => (d, answer .badArg)
    | some c => (acceptConfiguration c d, done [])

/-! ### Motion and mode (R186, R187, R18, R19, R24) -/

/-- Replace the mode. -/
def setMode (m : Mode) (d : Device) : Device := d.setPort { d.port with mode := m }

/-- A flush (R18, R34, R39, R54, R114): every slot FREE, both playouts STOPPED, every in-flight count 0. -/
def flush (d : Device) : Device :=
  let d1 := zeroInFlight (stopPlay d)
  let d2 := d1.setRing { d1.ring with
    slots := List.replicate 16 none
    play := { d1.ring.play with ended := false }
    conf := { d1.ring.conf with running := false, position := normalPosition d1.ring.conf.position } }
  let d3 := d2.setDecoder { d2.decoder with confCarry := none }
  setRecordedRun none (d3.setEncoder { d3.encoder with horizon := none, last := none })

/-- A forced return to PLAY with its MODE_CHANGE (R186, R194). -/
def forcePlay (cause : ModeCause) (d : Device) : Device :=
  match d.port.mode with
  | .play => d
  | .record => raise (.modeChange .play cause) (leaveRecord d)
  | .insert => raise (.modeChange .play cause) (setMode .play d)

/-- Motion leaves PLAYING (R186). -/
def leavePlaying (d : Device) : Device := abandonEdits (startAllContexts (flush (forcePlay .motion d)))

/-- MOTION (R186). -/
def motionRule (args : List Byte) (d : Device) : Device × Response :=
  match motionArg (octetAt 0 args) with
  | none => (d, answer .badArg)
  | some m =>
    if m = d.port.motion then (d, done [])
    else
      let d1 := d.setPort { d.port with motion := m }
      (if d.port.motion = .playing then leavePlaying d1 else d1, done [])

/-- The change from PLAY to RECORD (R19, R24). -/
def enterRecord (d : Device) : Device :=
  let d1 := setMode .record (setTouch Touch.empty (stopPlay (freeStates [.gather, .decoded, .playout] d)))
  d1.setRecorder { d1.recorder with
    state := .awaitOrigin, origin := none, fill := none, markOwed := true, fillOrigin := none }

/-- MODE_SET (R24, R187). -/
def modeRule (args : List Byte) (d : Device) : Device × Response :=
  match modeArg (octetAt 0 args) with
  | none => (d, answer .badArg)
  | some .play =>
    match d.port.mode with
    | .play => (d, done [])
    | .record => (leaveRecord d, done [])
    | .insert => if d.edit.state = .inserting then (d, answer .busy) else (setMode .play d, done [])
  | some m =>
    if d.port.motion ≠ .playing then (d, refusedFor .notPlaying)
    else if d.port.mode ≠ .play then (d, refusedFor .wrongMode)
    else if m = .record then (enterRecord d, done [])
    else (setMode .insert d, done [])

/-- PROGRAM_SET (R29). -/
def programRule (args : List Byte) (d : Device) : Device × Response :=
  let v := octetAt 0 args
  if v ≤ 99 then (d.setRecorder { d.recorder with program := some v }, done [])
  else if v = 255 then (d.setRecorder { d.recorder with program := none }, done [])
  else (d, answer .badArg)

/-! ### Routes (R167, R119) -/

/-- TAPE and CONFIDENCE may not feed RECORD_FEED (R119). -/
def forbiddenRoute (x : Source) (y : Destination) : Bool :=
  (x == .tape || x == .confidence) && y == .recordFeed

/-- ROUTE_SET (R167). -/
def routeSetRule (args : List Byte) (d : Device) : Device × Response :=
  match sourceArg (octetAt 1 args), destinationArg (octetAt 2 args), flagArg (octetAt 3 args) with
  | some x, some y, some e =>
    if 7 < octetAt 0 args ∨ forbiddenRoute x y = true then (d, answer .badArg)
    else
      (d.setRouter { d.router with
        routes := d.router.routes.set (octetAt 0 args) { source := x, destination := y, enabled := e } }, done [])
  | _, _, _ => (d, answer .badArg)

/-- ROUTE_READ (R167). -/
def routeReadRule (args : List Byte) (d : Device) : Device × Response :=
  match d.router.routes[octetAt 0 args]? with
  | some r => (d, done (routeOctets (octetAt 0 args) r d))
  | none => (d, answer .badArg)

/-! ### Slots (R155, R156, R171) -/

/-- SLOT_CLAIM (R155). -/
def slotClaimRule (args : List Byte) (d : Device) : Device × Response :=
  let k := octetAt 0 args
  if 11 < k then (d, answer .badArg)
  else if attached d = false then (d, refusedFor .notAttached)
  else if (slotEntry k d).owner.isSome = true ∨ (slotEntry k d).ownClaim = true then (d, answer .busy)
  else if 8 ≤ d.link.queue.length then (d, answer .queueFull)
  else
    (putSlotEntry k { slotEntry k d with ownClaim := true }
      (setQueue (joinQueue (newMessage kindSlotClaim 255 [BitVec.ofNat 8 k] .localClaim) d.link.queue) d), done [])

/-- SLOT_RELEASE (R156). -/
def slotReleaseRule (args : List Byte) (d : Device) : Device × Response :=
  let k := octetAt 0 args
  if 11 < k then (d, answer .badArg)
  else if attached d = false then (d, refusedFor .notAttached)
  else if ownsSlot k d = false then (d, refusedFor .notOwner)
  else if (slotEntry k d).ownRelease ≠ .none_ then (d, answer .busy)
  else if 8 ≤ d.link.queue.length then (d, answer .queueFull)
  else (queueRelease k .localRelease d, done [])

/-- SLOTS_READ (R171). -/
def slotsReadRule (d : Device) : Device × Response := (d, done (slotsOctets d))

/-! ### Edits (R85, R88, R106) -/

/-- EDIT_POST (R85). -/
def editPostRule (args : List Byte) (d : Device) : Device × Response :=
  match readPost args with
  | none => (d, answer .badArg)
  | some post =>
    match placePost .localPort post d with
    | (d1, .placed p) => (d1, done (octets 1 p))
    | (_, .duplicate) => (d, answer .duplicate)
    | (_, .full) => (d, answer .full)

/-- EDIT_CANCEL (R106). -/
def editCancelRule (args : List Byte) (d : Device) : Device × Response :=
  match posterArg (octetAt 0 args) with
  | none => (d, answer .badArg)
  | some poster =>
    match cancelEntry poster (args.getD 1 0) d with
    | (d1, .done) => (d1, done [])
    | (_, .notFound) => (d, answer .notFound)
    | (_, .notCancellable) => (d, answer .notCancellable)

/-! ### The table port (R188, R79, R100) -/

/-- The last index of a table (R188). -/
def lastIndex : TableName → Nat
  | .fade => 63
  | .kernel => 15

/-- The selection, the address counter and the end-written flag. -/
def setTablePort (t : TableName) (address : Nat) (endWritten : Bool) (d : Device) : Device :=
  d.setPort { d.port with table := t, address := address, endWritten := endWritten }

/-- TABLE_SELECT (R188). -/
def tableSelectRule (args : List Byte) (d : Device) : Device × Response :=
  match tableArg (octetAt 0 args) with
  | none => (d, answer .badArg)
  | some t => (setTablePort t 0 false d, done [])

/-- TABLE_REWIND (R188). -/
def tableRewindRule (d : Device) : Device × Response := (setTablePort d.port.table 0 false d, done [])

/-- The value of the selected table at an index. -/
def tableValue (t : TableName) (i : Nat) (d : Device) : Int :=
  match t with
  | .fade => (d.edit.fadeTable.getD i 0 : Nat)
  | .kernel => d.conceal.kernel.getD i 0

/-- The address counter advanced, staying at the last index (R188). -/
def nextAddress (d : Device) : Nat := min (lastIndex d.port.table) (d.port.address + 1)

/-- TABLE_READ (R188). -/
def tableReadRule (d : Device) : Device × Response :=
  (setTablePort d.port.table (nextAddress d) d.port.endWritten d,
   done (signedOctets 2 (tableValue d.port.table d.port.address d)))

/-- The value lies in the range of the table (R79, R100). -/
def valueInRange (t : TableName) (v : Int) : Bool :=
  match t with
  | .fade => decide (0 ≤ v ∧ v ≤ 256)
  | .kernel => decide (-128 ≤ v ∧ v ≤ 127)

/-- The table is in use (R79, R100). -/
def tableBusy (t : TableName) (d : Device) : Bool :=
  match t with
  | .fade => d.edit.state == .inserting
  | .kernel => d.ring.play.state == .running || d.ring.conf.running

/-- A value stored in a table. -/
def storeTable (t : TableName) (i : Nat) (v : Int) (d : Device) : Device :=
  match t with
  | .fade => d.setEdit { d.edit with fadeTable := d.edit.fadeTable.set i v.toNat }
  | .kernel => d.setConceal { d.conceal with kernel := d.conceal.kernel.set i v }

/-- TABLE_WRITE (R188). -/
def tableWriteRule (args : List Byte) (d : Device) : Device × Response :=
  let v := ofSignedOctets args
  let t := d.port.table
  if d.port.endWritten then (d, refusedFor .tableEnd)
  else if valueInRange t v = false then (d, answer .badArg)
  else if tableBusy t d then (d, answer .busy)
  else
    (setTablePort t (nextAddress d) (decide (lastIndex t ≤ d.port.address)) (storeTable t d.port.address v d), done [])

/-! ### Search, chase (R61, R172, R173) -/

/-- The pattern SEARCH_SET carries; the last hit is kept (R61). -/
def patternArg (args : List Byte) (old : Pattern) : Option Pattern :=
  match flagArg (octetAt 1 args), flagArg (octetAt 4 args), flagArg (octetAt 5 args), flagArg (octetAt 16 args) with
  | some enabled, some index, some compared, some segmentEnabled =>
    if 7 < octetAt 6 args ∨ 7 < octetAt 7 args ∨ octetAt 20 args = 0 ∨ 8 < octetAt 20 args then none
    else some
      { enabled := enabled, programValue := args.getD 2 0, programMask := args.getD 3 0, indexValue := index
        indexCompared := compared, stationValue := args.getD 6 0, stationMask := args.getD 7 0
        labelValues := field 8 4 args, labelMasks := field 12 4 args, segmentEnabled := segmentEnabled
        segmentValue := ofOctets (field 17 3 args), count := octetAt 20 args, matches_ := 0
        lastHit := old.lastHit }
  | _, _, _, _ => none

/-- SEARCH_SET (R61). -/
def searchSetRule (args : List Byte) (d : Device) : Device × Response :=
  let i := octetAt 0 args
  if 3 < i then (d, answer .badArg)
  else
    match patternArg args (patternAt i d) with
    | some p => (putPattern i p d, done [])
    | none => (d, answer .badArg)

/-- CHASE_SET (R172). -/
def chaseSetRule (args : List Byte) (d : Device) : Device × Response :=
  match requestChase args d with
  | some d1 => (d1, done [])
  | none => (d, answer .badArg)

/-- CHASE_OFF (R173). -/
def chaseOffRule (d : Device) : Device × Response := (endChase d, done [])

/-- CHASE_TRIM (R173). -/
def chaseTrimRule (args : List Byte) (d : Device) : Device × Response := trimChase (ofSignedOctets args) d

/-! ### Events (R190) -/

/-- EVENT_ENABLE (R190). -/
def eventEnableRule (args : List Byte) (d : Device) : Device × Response :=
  (d.setEvents { d.events with enabled := eventSetArg args }, done [])

/-- EVENT_EXCHANGE (R190). -/
def eventExchangeRule (args : List Byte) (d : Device) : Device × Response :=
  (d.setEvents { d.events with pending := d.events.pending &&& ~~~(eventSetArg args) },
   done (eventSetOctets d.events.pending))

/-- EVENT_DETAIL (R190). -/
def eventDetailRule (args : List Byte) (d : Device) : Device × Response :=
  if 17 < octetAt 0 args then (d, answer .badArg) else (d, done (detailData (octetAt 0 args) d))

/-! ### Reads (R192, R82, R169) -/

/-- STATUS_READ (R192, R141). -/
def statusReadRule (d : Device) : Device × Response :=
  (d.setLink { d.link with bad := 0 }, done (statusOctets d))

/-- COUNTERS_READ (R82). -/
def countersReadRule (args : List Byte) (d : Device) : Device × Response :=
  match playbackArg (octetAt 0 args) with
  | none => (d, answer .badArg)
  | some s => (putCounters s CounterSet.zero d, done (counterOctets (countersOf s d)))

/-- PEAKS_READ (R169). -/
def peaksReadRule (d : Device) : Device × Response :=
  (d.setRouter { d.router with mainLeft := 0, mainRight := 0, monitorLeft := 0, monitorRight := 0 },
   done (peakOctets d.router))

/-! ### Resets (R194, R138, R193) -/

/-- The Stripe Decoder and the Search Unit at DECK_RESET (R45, R49, R54, R61; 03). -/
def resetDecoding (d : Device) : Device :=
  (d.setDecoder Decoder.initial).setSearch { d.search with
    patterns := d.search.patterns.map (fun p => { p with matches_ := 0 }), compared := none, awaiting := none }

/-- The encoder at DECK_RESET: the generator runs on (R34, R37). -/
def resetEncoder (d : Device) : Device :=
  d.setEncoder { Encoder.initial with generator := d.encoder.generator, horizon := d.encoder.horizon }

/-- DECK_RESET (R194). -/
def resetDeck (d : Device) : Device :=
  let d1 := cancelEdits (startAllContexts (resetEncoder (resetDecoding (flush d))))
  let d2 := forcePlay .deckReset (d1.setRecorder (idleRecorder d1.recorder))
  d2.setCounters Counters.initial

/-- DECK_RESET (R194). -/
def deckResetRule (d : Device) : Device × Response := (resetDeck d, done [])

/-- LINK_RESTART (R138, R195). -/
def linkRestartRule (d : Device) : Device × Response := (restartLink d, done [])

/-! ### Commands -/

/-- POWER_ON (R193). -/
def execPowerOn (s : State) : Host.Outcome State Fault Refusal := .next { s with dev := Device.reset }

/-- RESET_ASSERT (R193): held in reset. -/
def execResetAssert (s : State) : Host.Outcome State Fault Refusal :=
  .next { s with dev := Device.reset.setResetHeld true }

/-- RESET_RELEASE (R193). -/
def execResetRelease (s : State) : Host.Outcome State Fault Refusal := .next { s with dev := Device.reset }

/-- CPSEL_ASSERT (R183). -/
def execCpselAssert (s : State) : Host.Outcome State Fault Refusal := .next { s with dev := assertSelect s.dev }

/-- CPSEL_RELEASE (R183). -/
def execCpselRelease (s : State) : Host.Outcome State Fault Refusal := .next { s with dev := releaseSelect s.dev }

/-- CONFIGURE (R185), code 01h. -/
def execConfigure (args : List Byte) (s : State) : Host.Outcome State Fault Refusal :=
  .next { s with dev := takeCommand 1 38 args (configureRule args) s.dev }

/-- MOTION (R186), code 02h. -/
def execMotion (args : List Byte) (s : State) : Host.Outcome State Fault Refusal :=
  .next { s with dev := takeCommand 2 1 args (motionRule args) s.dev }

/-- MODE_SET (R187, R24), code 03h. -/
def execModeSet (args : List Byte) (s : State) : Host.Outcome State Fault Refusal :=
  .next { s with dev := takeCommand 3 1 args (modeRule args) s.dev }

/-- PROGRAM_SET (R29), code 04h. -/
def execProgramSet (args : List Byte) (s : State) : Host.Outcome State Fault Refusal :=
  .next { s with dev := takeCommand 4 1 args (programRule args) s.dev }

/-- ROUTE_SET (R167), code 05h. -/
def execRouteSet (args : List Byte) (s : State) : Host.Outcome State Fault Refusal :=
  .next { s with dev := takeCommand 5 4 args (routeSetRule args) s.dev }

/-- ROUTE_READ (R167), code 06h. -/
def execRouteRead (args : List Byte) (s : State) : Host.Outcome State Fault Refusal :=
  .next { s with dev := takeCommand 6 1 args (routeReadRule args) s.dev }

/-- SLOT_CLAIM (R155), code 07h. -/
def execSlotClaim (args : List Byte) (s : State) : Host.Outcome State Fault Refusal :=
  .next { s with dev := takeCommand 7 1 args (slotClaimRule args) s.dev }

/-- SLOT_RELEASE (R156), code 08h. -/
def execSlotRelease (args : List Byte) (s : State) : Host.Outcome State Fault Refusal :=
  .next { s with dev := takeCommand 8 1 args (slotReleaseRule args) s.dev }

/-- SLOTS_READ (R171), code 09h. -/
def execSlotsRead (args : List Byte) (s : State) : Host.Outcome State Fault Refusal :=
  .next { s with dev := takeCommand 9 0 args slotsReadRule s.dev }

/-- EDIT_POST (R85), code 0Ah. -/
def execEditPost (args : List Byte) (s : State) : Host.Outcome State Fault Refusal :=
  .next { s with dev := takeCommand 10 9 args (editPostRule args) s.dev }

/-- EDIT_CANCEL (R106), code 0Bh. -/
def execEditCancel (args : List Byte) (s : State) : Host.Outcome State Fault Refusal :=
  .next { s with dev := takeCommand 11 2 args (editCancelRule args) s.dev }

/-- EDIT_REAP (R88), code 0Ch. -/
def execEditReap (args : List Byte) (s : State) : Host.Outcome State Fault Refusal :=
  .next { s with dev := takeCommand 12 0 args reapTail s.dev }

/-- TABLE_SELECT (R188), code 0Dh. -/
def execTableSelect (args : List Byte) (s : State) : Host.Outcome State Fault Refusal :=
  .next { s with dev := takeCommand 13 1 args (tableSelectRule args) s.dev }

/-- TABLE_WRITE (R188), code 0Eh. -/
def execTableWrite (args : List Byte) (s : State) : Host.Outcome State Fault Refusal :=
  .next { s with dev := takeCommand 14 2 args (tableWriteRule args) s.dev }

/-- TABLE_READ (R188), code 0Fh. -/
def execTableRead (args : List Byte) (s : State) : Host.Outcome State Fault Refusal :=
  .next { s with dev := takeCommand 15 0 args tableReadRule s.dev }

/-- TABLE_REWIND (R188), code 10h. -/
def execTableRewind (args : List Byte) (s : State) : Host.Outcome State Fault Refusal :=
  .next { s with dev := takeCommand 16 0 args tableRewindRule s.dev }

/-- SEARCH_SET (R61), code 11h. -/
def execSearchSet (args : List Byte) (s : State) : Host.Outcome State Fault Refusal :=
  .next { s with dev := takeCommand 17 21 args (searchSetRule args) s.dev }

/-- CHASE_SET (R172), code 12h. -/
def execChaseSet (args : List Byte) (s : State) : Host.Outcome State Fault Refusal :=
  .next { s with dev := takeCommand 18 6 args (chaseSetRule args) s.dev }

/-- CHASE_OFF (R173), code 13h. -/
def execChaseOff (args : List Byte) (s : State) : Host.Outcome State Fault Refusal :=
  .next { s with dev := takeCommand 19 0 args chaseOffRule s.dev }

/-- CHASE_TRIM (R173), code 14h. -/
def execChaseTrim (args : List Byte) (s : State) : Host.Outcome State Fault Refusal :=
  .next { s with dev := takeCommand 20 2 args (chaseTrimRule args) s.dev }

/-- EVENT_ENABLE (R190), code 15h. -/
def execEventEnable (args : List Byte) (s : State) : Host.Outcome State Fault Refusal :=
  .next { s with dev := takeCommand 21 3 args (eventEnableRule args) s.dev }

/-- EVENT_EXCHANGE (R190), code 16h. -/
def execEventExchange (args : List Byte) (s : State) : Host.Outcome State Fault Refusal :=
  .next { s with dev := takeCommand 22 3 args (eventExchangeRule args) s.dev }

/-- EVENT_DETAIL (R190), code 17h. -/
def execEventDetail (args : List Byte) (s : State) : Host.Outcome State Fault Refusal :=
  .next { s with dev := takeCommand 23 1 args (eventDetailRule args) s.dev }

/-- STATUS_READ (R192), code 18h. -/
def execStatusRead (args : List Byte) (s : State) : Host.Outcome State Fault Refusal :=
  .next { s with dev := takeCommand 24 0 args statusReadRule s.dev }

/-- COUNTERS_READ (R82), code 19h. -/
def execCountersRead (args : List Byte) (s : State) : Host.Outcome State Fault Refusal :=
  .next { s with dev := takeCommand 25 1 args (countersReadRule args) s.dev }

/-- PEAKS_READ (R169), code 1Ah. -/
def execPeaksRead (args : List Byte) (s : State) : Host.Outcome State Fault Refusal :=
  .next { s with dev := takeCommand 26 0 args peaksReadRule s.dev }

/-- DECK_RESET (R194), code 1Bh. -/
def execDeckReset (args : List Byte) (s : State) : Host.Outcome State Fault Refusal :=
  .next { s with dev := takeCommand 27 0 args deckResetRule s.dev }

/-- LINK_RESTART (R138, R195), code 1Ch. -/
def execLinkRestart (args : List Byte) (s : State) : Host.Outcome State Fault Refusal :=
  .next { s with dev := takeCommand 28 0 args linkRestartRule s.dev }

/-- A code that names no command (R184). -/
def execUnknownCode (code : Byte) (args : List Byte) (s : State) : Host.Outcome State Fault Refusal :=
  .next { s with dev := takeUnknown code args s.dev }

end Sys2Proof.Machine
end

