-- ==== Sys2Proof/Machine/Dispatch.lean ====
section
/-! DEFINITION. One arm per command of the device. -/

namespace Sys2Proof.Machine

open Sys2Proof

def exec (i : Instr) (s : State) : Host.Outcome State Fault Refusal :=
  match i with
  | .powerOn => Sys2Proof.Machine.execPowerOn s
  | .resetAssert => Sys2Proof.Machine.execResetAssert s
  | .resetRelease => Sys2Proof.Machine.execResetRelease s
  | .cpselAssert => Sys2Proof.Machine.execCpselAssert s
  | .cpselRelease => Sys2Proof.Machine.execCpselRelease s
  | .configure args => Sys2Proof.Machine.execConfigure args s
  | .motion args => Sys2Proof.Machine.execMotion args s
  | .modeSet args => Sys2Proof.Machine.execModeSet args s
  | .programSet args => Sys2Proof.Machine.execProgramSet args s
  | .routeSet args => Sys2Proof.Machine.execRouteSet args s
  | .routeRead args => Sys2Proof.Machine.execRouteRead args s
  | .slotClaim args => Sys2Proof.Machine.execSlotClaim args s
  | .slotRelease args => Sys2Proof.Machine.execSlotRelease args s
  | .slotsRead args => Sys2Proof.Machine.execSlotsRead args s
  | .editPost args => Sys2Proof.Machine.execEditPost args s
  | .editCancel args => Sys2Proof.Machine.execEditCancel args s
  | .editReap args => Sys2Proof.Machine.execEditReap args s
  | .tableSelect args => Sys2Proof.Machine.execTableSelect args s
  | .tableWrite args => Sys2Proof.Machine.execTableWrite args s
  | .tableRead args => Sys2Proof.Machine.execTableRead args s
  | .tableRewind args => Sys2Proof.Machine.execTableRewind args s
  | .searchSet args => Sys2Proof.Machine.execSearchSet args s
  | .chaseSet args => Sys2Proof.Machine.execChaseSet args s
  | .chaseOff args => Sys2Proof.Machine.execChaseOff args s
  | .chaseTrim args => Sys2Proof.Machine.execChaseTrim args s
  | .eventEnable args => Sys2Proof.Machine.execEventEnable args s
  | .eventExchange args => Sys2Proof.Machine.execEventExchange args s
  | .eventDetail args => Sys2Proof.Machine.execEventDetail args s
  | .statusRead args => Sys2Proof.Machine.execStatusRead args s
  | .countersRead args => Sys2Proof.Machine.execCountersRead args s
  | .peaksRead args => Sys2Proof.Machine.execPeaksRead args s
  | .deckReset args => Sys2Proof.Machine.execDeckReset args s
  | .linkRestart args => Sys2Proof.Machine.execLinkRestart args s
  | .wordReferencePeriod period => Sys2Proof.Machine.execWordReferencePeriod period s
  | .advanceStripeArrival head blocks => Sys2Proof.Machine.execAdvanceStripeArrival head blocks s
  | .confidenceStripeArrival head blocks => Sys2Proof.Machine.execConfidenceStripeArrival head blocks s
  | .writeWindowHeadA segment => Sys2Proof.Machine.execWriteWindowHeadA segment s
  | .writeWindowHeadB segment => Sys2Proof.Machine.execWriteWindowHeadB segment s
  | .decodeStart => Sys2Proof.Machine.execDecodeStart s
  | .decodeCompletion => Sys2Proof.Machine.execDecodeCompletion s
  | .encodeStart => Sys2Proof.Machine.execEncodeStart s
  | .encodeCompletion => Sys2Proof.Machine.execEncodeCompletion s
  | .sendStart => Sys2Proof.Machine.execSendStart s
  | .sendCompletion => Sys2Proof.Machine.execSendCompletion s
  | .slotClaimMessage message => Sys2Proof.Machine.execSlotClaimMessage message s
  | .slotReleaseMessage message => Sys2Proof.Machine.execSlotReleaseMessage message s
  | .editPostMessage message => Sys2Proof.Machine.execEditPostMessage message s
  | .editCancelMessage message => Sys2Proof.Machine.execEditCancelMessage message s
  | .chaseSetMessage message => Sys2Proof.Machine.execChaseSetMessage message s
  | .editReportMessage message => Sys2Proof.Machine.execEditReportMessage message s
  | .badMessage => Sys2Proof.Machine.execBadMessage s
  | .statusWordCompletion slot word => Sys2Proof.Machine.execStatusWordCompletion slot word s
  | .prefillEntry => Sys2Proof.Machine.execPrefillEntry s
  | .playPlayoutStart => Sys2Proof.Machine.execPlayPlayoutStart s
  | .playSegmentEnd => Sys2Proof.Machine.execPlaySegmentEnd s
  | .confidencePlayoutStart => Sys2Proof.Machine.execConfidencePlayoutStart s
  | .confidenceSegmentEnd => Sys2Proof.Machine.execConfidenceSegmentEnd s
  | .recordSealing => Sys2Proof.Machine.execRecordSealing s
  | .holdLimitPassed context => Sys2Proof.Machine.execHoldLimitPassed context s
  | .mute context => Sys2Proof.Machine.execMute context s
  | .recoveryComplete context => Sys2Proof.Machine.execRecoveryComplete context s
  | .fadeInComplete context => Sys2Proof.Machine.execFadeInComplete context s
  | .insertFadeInEnd => Sys2Proof.Machine.execInsertFadeInEnd s
  | .insertFadeOutEnd => Sys2Proof.Machine.execInsertFadeOutEnd s
  | .linkFounding => Sys2Proof.Machine.execLinkFounding s
  | .alignCountEnd marker => Sys2Proof.Machine.execAlignCountEnd marker s
  | .skipEnd => Sys2Proof.Machine.execSkipEnd s
  | .messageDropped => Sys2Proof.Machine.execMessageDropped s
  | .echoFaults => Sys2Proof.Machine.execEchoFaults s
  | .doubleDrive slot => Sys2Proof.Machine.execDoubleDrive slot s
  | .slotTimeout slot => Sys2Proof.Machine.execSlotTimeout slot s
  | .leadSilent => Sys2Proof.Machine.execLeadSilent s
  | .holdoverExpiry => Sys2Proof.Machine.execHoldoverExpiry s
  | .queuePlaceFill => Sys2Proof.Machine.execQueuePlaceFill s
  | .unknownCode code args => Sys2Proof.Machine.execUnknownCode code args s
  | .messageOfUnknownKind kind message => Sys2Proof.Machine.execMessageOfUnknownKind kind message s

end Sys2Proof.Machine
end

