-- ==== Sys2Proof/Safety.lean ====
section
/-! DEFINITION. What the statements speak of: the invariants every step keeps, the condition in which the control port
takes a command, and the forms of an answer. -/

namespace Sys2Proof.Machine

open Sys2Proof

/-- The machine with a device, and the queue as it was. -/
abbrev State.withDev (s : State) (d : Device) : State := { s with dev := d }

/-! ### Invariants -/

/-- R1: sixteen slots, and slot i holds a segment only if its number is congruent to i modulo 16. -/
def ringPlaced (d : Device) : Prop :=
  d.ring.slots.length = 16 ∧ ∀ i r, d.ring.slots[i]? = some (some r) → r.number % 16 = i

/-- The tables of the device have their places: 32 of the Edit Ring, 12 link slots and relays, 8 routes, 4 patterns,
18 event details, 64 fade points and 16 kernel coefficients; the tail and the head name places. -/
def tablesShaped (d : Device) : Prop :=
  d.edit.places.length = 32 ∧ d.edit.tail < 32 ∧ d.edit.head < 32 ∧ d.table.length = 12 ∧
  d.gate.relays.length = 12 ∧ d.router.routes.length = 8 ∧ d.search.patterns.length = 4 ∧
  d.events.details.length = 18 ∧ d.edit.fadeTable.length = 64 ∧ d.conceal.kernel.length = 16

/-- 02, RECORD mode: the recorder state is IDLE whenever the mode is not RECORD. -/
def recorderFollowsMode (d : Device) : Prop := d.port.mode ≠ .record → d.recorder.state = .idle

/-- The stripe queue holds at most 4 stripes (R47) and the outgoing queue at most 8 messages (R149, R150). -/
def queuesBounded (d : Device) : Prop := d.decoder.queue.length ≤ 4 ∧ d.link.queue.length ≤ 8

/-- The shape of the device's stores. -/
def shaped (d : Device) : Prop := ringPlaced d ∧ tablesShaped d

/-! ### The control port -/

/-- The code, the length and the arguments of a command frame whose code names a command (11, Commands and
responses). -/
def commandFrame : Instr → Option (Byte × Nat × List Byte)
  | .configure a => some (1, 38, a)
  | .motion a => some (2, 1, a)
  | .modeSet a => some (3, 1, a)
  | .programSet a => some (4, 1, a)
  | .routeSet a => some (5, 4, a)
  | .routeRead a => some (6, 1, a)
  | .slotClaim a => some (7, 1, a)
  | .slotRelease a => some (8, 1, a)
  | .slotsRead a => some (9, 0, a)
  | .editPost a => some (10, 9, a)
  | .editCancel a => some (11, 2, a)
  | .editReap a => some (12, 0, a)
  | .tableSelect a => some (13, 1, a)
  | .tableWrite a => some (14, 2, a)
  | .tableRead a => some (15, 0, a)
  | .tableRewind a => some (16, 0, a)
  | .searchSet a => some (17, 21, a)
  | .chaseSet a => some (18, 6, a)
  | .chaseOff a => some (19, 0, a)
  | .chaseTrim a => some (20, 2, a)
  | .eventEnable a => some (21, 3, a)
  | .eventExchange a => some (22, 3, a)
  | .eventDetail a => some (23, 1, a)
  | .statusRead a => some (24, 0, a)
  | .countersRead a => some (25, 1, a)
  | .peaksRead a => some (26, 0, a)
  | .deckReset a => some (27, 0, a)
  | .linkRestart a => some (28, 0, a)
  | _ => none

/-- RESET is not asserted and a transaction is in COMMAND (R183, R193). -/
def frameOpen (d : Device) : Prop := d.resetHeld = false ∧ d.port.transaction = .command

/-- The port hands a complete frame of the right length to its command's rule (R184). -/
def commandReady (d : Device) : Prop := frameOpen d ∧ configured d = true

/-- The port after a frame answered `r`: the transaction, the frame's octets and the response. -/
def answered (code : Byte) (args : List Byte) (r : Response) (d : Device) : Device :=
  { d with port := { d.port with
      transaction := .response, octets := code :: BitVec.ofNat 8 args.length :: args, response := some r } }

/-- Kind `k` is in a set of event kinds. -/
def hasKind (k : Nat) (set : BitVec 18) : Prop := set.getLsbD k = true

/-- An event has been raised and its detail is the latched one (R189). -/
def isLatched (e : EventDetail) (d : Device) : Prop :=
  hasKind (eventKind e) d.events.pending ∧ d.events.details.getD (eventKind e) none = some e

/-- The device with one event raised (R189). -/
def withEvent (e : EventDetail) (d : Device) : Device :=
  { d with events := { d.events with
      pending := d.events.pending ||| BitVec.ofNat 18 (2 ^ eventKind e)
      details := d.events.details.set (eventKind e) (some e) } }

/-- This station's message about a link slot as it joins the queue (R155, R156, R163). -/
def ownSlotMessage (kind k : Nat) (origin : MessageOrigin) : Queued :=
  { kind := kind, destination := 255, body := [BitVec.ofNat 8 k], losses := 0, origin := origin, sent := none }

/-- Every field of the configuration block lies in its range (10, Configuration; 11, The configuration block). -/
def blockInRange (l : List Byte) : Prop :=
  octetAt 0 l ≤ 7 ∧ octetAt 3 l ≤ 2 ∧ (octetAt 4 l = 16 ∨ octetAt 4 l = 20) ∧ octetAt 5 l ≤ 3 ∧ octetAt 6 l ≤ 3 ∧
  (3 ≤ octetAt 7 l ∧ octetAt 7 l ≤ 6) ∧ (1 ≤ octetAt 8 l ∧ octetAt 8 l ≤ 4) ∧
  (1 ≤ octetAt 9 l ∧ octetAt 9 l ≤ 4) ∧ (8 ≤ octetAt 10 l ∧ octetAt 10 l ≤ 64) ∧
  (4 ≤ octetAt 11 l ∧ octetAt 11 l ≤ 64) ∧ octetAt 12 l ≤ 3

/-- A configuration is the one a block's octets carry (11, The configuration block). -/
def isBlock (l : List Byte) (c : Configuration) : Prop :=
  c.station = octetAt 0 l ∧ c.groups = l.getD 1 0 ∧ c.authority = l.getD 2 0 ∧
  (match c.linkMode with | .off => 0 | .normal => 1 | .loop => 2) = octetAt 3 l ∧
  c.wordLength = octetAt 4 l ∧
  (match c.requant with | .truncate => 0 | .round => 1 | .triangular => 2 | .shaped => 3) = octetAt 5 l ∧
  copyRank c.original = octetAt 6 l ∧
  c.advance = octetAt 7 l ∧ c.confidence = octetAt 8 l ∧ c.prefill = octetAt 9 l ∧ c.holdLimit = octetAt 10 l ∧
  c.recoveryCount = octetAt 11 l ∧ c.kernel = octetAt 12 l ∧ c.verifyLimit = octetAt 13 l ∧
  c.label = (l.drop 14).take 4 ∧
  c.thresholds = (List.range 10).map (fun i => 256 * octetAt (18 + 2 * i) l + octetAt (19 + 2 * i) l)

/-- No record in the ring is in a state of the list. -/
def noneIn (l : List SlotState) (d : Device) : Prop :=
  ∀ (i : Nat) (r : Segment), d.ring.slots[i]? = some (some r) → r.state ∉ l

/-- The records of the ring in `d'` are those of `d` but for the states of the list, whose slots are FREE. -/
def freedOnly (l : List SlotState) (d d' : Device) : Prop :=
  ∀ (i : Nat) (r : Segment), d'.ring.slots[i]? = some (some r) ↔ (d.ring.slots[i]? = some (some r) ∧ r.state ∉ l)

/-- Nothing waits for a place of the outgoing queue: no owed release, no WAITING report (R151). -/
def nothingWaits (d : Device) : Prop :=
  (∀ k, (slotEntry k d).ownRelease ≠ .owed) ∧ ∀ p e, entryAt p d = some e → e.report ≠ .waiting

/-- A message completes at a receiver in IDLE or RECEIVING of an ATTACHED station whose own queue has nothing on the
link (R141). -/
def receivesMessage (d : Device) : Prop :=
  d.link.attachment = .attached ∧ d.link.receiver ≠ .skip ∧ ∀ m ∈ d.link.queue, m.sent = none

/-- The receiver after the end of a message (R140). -/
def afterMessage (d : Device) : Device :=
  { d with link := { d.link with receiver := .idle, quiet := 0, bits := [] } }

/-- A link message is for this station: its number, a group of its set, or FFh (R142). -/
def isAddressed (m : LinkMessage) (d : Device) : Prop :=
  m.destination = (cfg d).station ∨
  (64 ≤ m.destination ∧ m.destination ≤ 71 ∧ (cfg d).groups.getLsbD (m.destination - 64) = true) ∨
  m.destination = 255

/-- A present block as the encoder wrote it, read without damage. -/
def cleanBlock (b : List Byte) : BlockRecord := .present ((b.drop 1).take 45) (b.drop 46) .sound

/-- A subcode record whose fields lie in the ranges of its layout (02, The subcode record). -/
def subcodeInRange (x : Subcode) : Prop :=
  x.segment ≤ lastSegment ∧ (∀ p ∈ x.program, p ≤ 99) ∧ (∀ o ∈ x.editOffset, o ≤ 479) ∧ x.copy ≠ .unknown ∧
  (x.wordLength = 16 ∨ x.wordLength = 20) ∧ x.station ≤ 7 ∧ x.label.length = 4

/-- A message whose fields lie in the ranges of the header and the body (R139). -/
def messageInRange (m : Queued) : Prop := m.kind ≤ 31 ∧ m.destination ≤ 255 ∧ m.body.length ≤ 16

/-! ### Edit posts and chains (R85, R87; 11, Messages) -/

/-- The nine octets of a post pass R85's BAD_ARG check: action and trigger kind 0 to 2, the chained flag on a PUNCH_IN
alone, a pattern up to 3, a fade length code up to 5 and an offset up to 479. A segment of three octets and a shape of
two bits cannot exceed their limits. -/
def postInRange (l : List Byte) : Prop :=
  octetAt 1 l / 16 ≤ 2 ∧ octetAt 1 l % 16 ≤ 2 ∧ (octetAt 1 l / 16 ≠ 0 → (l.getD 2 0).getLsbD 7 = false) ∧
  (octetAt 1 l % 16 = 1 → octetAt 3 l ≤ 3) ∧ octetAt 2 l % 8 ≤ 5 ∧ octetAt 7 l * 256 + octetAt 8 l ≤ 479

/-- The fields of a post in its nine octets (11, Messages, EDIT_POST). -/
def postFields (l : List Byte) : EditPost :=
  let offset := octetAt 7 l * 256 + octetAt 8 l
  { tag := l.getD 0 0
    action := if octetAt 1 l / 16 = 0 then .punchIn else if octetAt 1 l / 16 = 1 then .punchOut else .mark
    chained := (l.getD 2 0).getLsbD 7
    trigger :=
      if octetAt 1 l % 16 = 0 then .atPosition ((octetAt 4 l * 256 + octetAt 5 l) * 256 + octetAt 6 l) offset
      else if octetAt 1 l % 16 = 1 then .search (octetAt 3 l) offset else .nextSegment offset
    fadeCode := octetAt 2 l % 8
    shape := octetAt 2 l / 16 % 4
    requiresLock := (l.getD 2 0).getLsbD 6
    octets := l }

/-- How far a place stands from the tail, in ring order (R84). -/
def ringRank (p : Nat) (d : Device) : Nat := (p + 32 - d.edit.tail) % 32

/-- A PUNCH_IN with the chained flag set. -/
def opensChain (e : Entry) : Prop := e.post.action = .punchIn ∧ e.post.chained = true

/-- A PUNCH_OUT that is PENDING and unfired. -/
def endsChain (e : Entry) : Prop := e.post.action = .punchOut ∧ e.state = .pending ∧ e.fired = false

/-- The entry at `o` is the chained PUNCH_OUT of the one at `p` (R87): the first PENDING, unfired PUNCH_OUT of its
poster after it in ring order, with no other chained PUNCH_IN of that poster between. -/
def isChain (p o : Nat) (d : Device) : Prop :=
  p < 32 ∧ o < 32 ∧ ringRank p d < ringRank o d ∧ ∃ e x, entryAt p d = some e ∧ entryAt o d = some x ∧
    opensChain e ∧ endsChain x ∧ x.poster = e.poster ∧
    ∀ q y, q < 32 → ringRank p d < ringRank q d → ringRank q d < ringRank o d → entryAt q d = some y →
      y.poster = e.poster → ¬ opensChain y ∧ ¬ endsChain y

/-- The entry at a place has retired with a status. -/
def isRetired (p : Nat) (st : EditStatus) (d : Device) : Prop :=
  ∃ e, entryAt p d = some e ∧ e.state = .retired ∧ e.status = some st

/-- The chained PUNCH_OUT that the entry at `p` had, if it had one, has retired SKIPPED (R87). -/
def chainSkipped (p : Nat) (before after : Device) : Prop :=
  ∀ o, isChain p o before → isRetired o .skipped after

/-! ### Linked entries (R2, R105, R108) -/

/-- The touch record names a place (R105). -/
def isTouched (p : Nat) (d : Device) : Prop := d.edit.touch.insertion = some p ∨ p ∈ d.edit.touch.marks

/-- EDIT_RETIRED is pending. -/
def retirementRaised (d : Device) : Prop := hasKind (eventKind (.editRetired 0 .localPort 0 .done)) d.events.pending

/-- One slot linked to the entry at `p`, which is not PENDING, has become FREE (R2), its result first changed by `f`:
one segment less is in flight, and with none left a VERIFYING entry retires with its outcome, unless the touch record
names it or its insertion runs (R105). -/
def linkFreed (p : Nat) (f : EditResult → EditResult) (before after : Device) : Prop :=
  ∀ e y, entryAt p before = some e → e.result = some y → e.state ≠ .pending →
    let lowered : EditResult := { f y with inFlight := y.inFlight - 1 }
    let retires := e.state = .verifying ∧ y.inFlight ≤ 1 ∧ ¬ isTouched p before ∧ before.edit.insertion ≠ some p
    (¬ retires → entryAt p after = some { e with result := some lowered }) ∧
    (retires → isRetired p (statusOf (e.outcome.getD .done)) after ∧ retirementRaised after ∧
      ∃ e', entryAt p after = some e' ∧ e'.result = some lowered)

/-- The records step 3 of R108 frees at the telling of segment `k` to the entry at `p`: its other records above `k`
without stripe A written. A window of segment `w` writes stripe A of that segment before it strands others. -/
def freedAbove (k p : Nat) (w : Option Nat) (d : Device) : List Segment :=
  (records d).filter (fun r => r.editLink == some p && decide (k < r.number) && !r.writtenA &&
    !(r.state == .encoded && some r.number == w))

/-- Segment `k` has told the entry at `p` a write late (R108): outcome BROKEN where it was DONE, last segment k - 1 or
absent, the slots of `freedAbove` FREE and the entry's others kept, a running insertion dropped with its chained
PUNCH_OUT SKIPPED, a touched segment spoiled. `own` is 1 where slot `k` itself becomes FREE at the event. The entry
retires with its outcome once nothing is in flight, unless the touch record names it (R105). -/
def isTold (k p own : Nat) (w : Option Nat) (before after : Device) : Prop :=
  let above := freedAbove k p w before
  (∀ r ∈ above, held r.number after = none) ∧
  (∀ r ∈ records before, r.editLink = some p → k < r.number → r ∉ above → r.state ≠ .fill →
    (held r.number after).isSome = true) ∧
  ∀ e y, entryAt p before = some e → e.result = some y → 1 ≤ y.inFlight →
    (e.state = .verifying ∨ e.state = .inserting) → (e.state = .inserting ↔ before.edit.insertion = some p) →
    let outcome := if e.outcome = some .done then some .broken else e.outcome
    let told : EditResult := { y with
      last := match y.first with
        | some f => if f < k then some (k - 1) else none
        | none => none
      inFlight := y.inFlight - (own + above.length) }
    (isTouched p before ∨ own + above.length < y.inFlight → entryAt p after = some { e with
      state := .verifying, outcome := outcome, result := some told }) ∧
    (¬ isTouched p before → y.inFlight ≤ own + above.length →
      isRetired p (statusOf (outcome.getD .done)) after ∧ retirementRaised after ∧
      ∃ e', entryAt p after = some e' ∧ e'.result = some told) ∧
    (isTouched p before → after.edit.touch.spoiled = true) ∧
    (before.edit.insertion = some p → after.edit.insertion = none ∧ after.edit.gain = 0 ∧ after.edit.phase = none ∧
      after.edit.fade = none ∧ chainSkipped p before after)

/-! ### The encode of a record (R34, R35) -/

/-- The pairs an encode treats, in order, each with whether it is requantized (R35): silence as zero words for a
RECORD segment sealed SHUT, the fill's pairs for one sealed OPEN, and for an INSERT segment the stored values,
requantized where the insert gain is above 0. A segment of a fill is the one with no old audio (R2). -/
def toTape (r : Segment) : List (Pair × Bool) :=
  match r.old with
  | some old => (old.zip (r.gains.getD (List.replicate 480 0))).map
      (fun x => ({ left := x.1.left.value, right := x.1.right.value }, decide (0 < x.2)))
  | none =>
    if r.decision = some .shut then List.replicate 480 (silentPair, false)
    else (r.new.getD []).map (fun x => (x.getD silentPair, true))

/-- The tape words of pairs in order, from a requantizer, and the requantizer they leave: a requantized pair by R36, any
other with the bits below the word length dropped and neither draw nor feedback (R35). -/
def tapeWords (mode : Requant) (length : Nat) (z : Requantizer) (l : List (Pair × Bool)) : List Pair × Requantizer :=
  let q : Int := 2 ^ (24 - length)
  let dropped := fun (x : Sample) => BitVec.ofInt 24 (Int.fdiv x.toInt q * q)
  l.foldl (fun done x =>
    if x.2 then
      let y := requantizePair mode length x.1 done.2
      (done.1 ++ [y.1], y.2)
    else (done.1 ++ [{ left := dropped x.1.left, right := dropped x.1.right }], done.2)) ([], z)

/-- The encoder after the encode of a record with subcode `x` has started: the continuity test, feedback 0 where it
fails and for a RECORD segment sealed SHUT, the stripes of the words of all its pairs, and the feedback and the
generator those leave (R34, R35; that they are formed at the start is the model's choice, log 7). -/
def encoderStarted (r : Segment) (x : Subcode) (d : Device) : Encoder :=
  let e := d.encoder
  let kept : Bool := e.last.map (· + 1) == some r.number && !(r.old.isNone && r.decision == some .shut)
  let words := tapeWords (cfg d).requant x.wordLength
    { left := if kept then e.errorLeft else 0, right := if kept then e.errorRight else 0, generator := e.generator }
    (toTape r)
  { inFlight := some { segment := r.number
                       stripes := { a := makeStripe .a words.1 x, b := makeStripe .b words.1 x } }
    last := some r.number, errorLeft := words.2.left, errorRight := words.2.right, generator := words.2.generator
    horizon := e.horizon }

/-- An encoder that is idle in `d` has taken the lowest segment that `after` holds in ENCODING, or stays idle where
there is none (R34). -/
def encodesLowest (d after : Device) : Prop :=
  (noneIn [.encoding] after → after.encoder = d.encoder) ∧
  ∀ n r x, heldIn .encoding n after = some r → (∀ m, (heldIn .encoding m after).isSome = true → n ≤ m) →
    r.subcode = some x → after.encoder = encoderStarted r x d

/-! ### Leaving ATTACHED (R154) -/

/-- A kind of event has not been raised. -/
def kindStands (k : Nat) (before after : Device) : Prop :=
  (hasKind k after.events.pending ↔ hasKind k before.events.pending) ∧
  after.events.details.getD k none = before.events.details.getD k none

/-- The Slot Table has been cleared (R154): every entry FREE and every relay history empty; SLOT_LOST with cause
DETACHED for the slots this station owned and CLAIM_RESULT with cause DETACHED for its queued claims, each with the
highest slot as latched detail; no SLOT_CHANGE. -/
def tableCleared (before after : Device) : Prop :=
  let owned := fun k => k ≤ 11 ∧ (slotEntry k before).owner = some (cfg before).station
  let claimed := fun k => k ≤ 11 ∧ (slotEntry k before).ownClaim = true
  (∀ k, slotEntry k after = SlotEntry.free) ∧ (∀ k, (relayOf k after).history = []) ∧
  (∀ k, owned k → (∀ j, owned j → j ≤ k) → isLatched (.slotLost k .detached) after) ∧
  ((∀ k, ¬ owned k) → kindStands (eventKind (.slotLost 0 .detached)) before after) ∧
  (∀ k, claimed k → (∀ j, claimed j → j ≤ k) → isLatched (.claimResult k (some .detached)) after) ∧
  ((∀ k, ¬ claimed k) → kindStands (eventKind (.claimResult 0 none)) before after) ∧
  kindStands (eventKind (.slotChange 0 none .released)) before after

/-! ### The layouts of the reads (11, Reads) -/

/-- A number in `k` octets, most significant first (R197). -/
def numberField (k v : Nat) : List Byte := (List.range k).map (fun i => BitVec.ofNat 8 (v / 256 ^ (k - 1 - i)))

/-- A signed number in `k` octets, two's complement (R197). -/
def signedField (k : Nat) (v : Int) : List Byte := numberField k (v % (256 ^ k : Nat)).toNat

/-- A flag (R197). -/
def flagField (b : Bool) : List Byte := numberField 1 b.toNat

/-- An enumerated value: its place in the list of its defining table (R197). -/
def enumField {α : Type} [DecidableEq α] (table : List α) (x : α) : List Byte := numberField 1 (table.idxOf x)

/-- A field of `k` octets that may be absent: a presence octet, then the field, zero where absent (R197). -/
def presentField {α : Type} (k : Nat) (f : α → List Byte) (x : Option α) : List Byte :=
  match x with
  | some x => 1 :: f x
  | none => List.replicate (k + 1) 0

/-- A position: its segment, then its offset. -/
def placeField (p : Position) : List Byte := numberField 3 p.segment ++ numberField 2 p.offset

/-- A copy status, in the order of its table (06, Status values). -/
def copyField (c : CopyStatus) : List Byte :=
  enumField [CopyStatus.openCopy, .counted3, .counted2, .counted1, .spent, .unknown] c

/-- A motion, in the order of R186. -/
def motionField (m : Motion) : List Byte := enumField [Motion.stopped, .playing, .windFwd, .windRev] m

/-- A router source (R197). -/
def sourceField : Source → List Byte
  | .lineIn => numberField 1 0
  | .tape => numberField 1 1
  | .confidence => numberField 1 2
  | .linkRx k => numberField 1 (3 + k)
  | .silence => numberField 1 15

/-- The copy status of a subcode record, or of its absence (R117, R118). -/
def subcodeCopy : Option Subcode → CopyStatus
  | some x => x.copy
  | none => .unknown

/-- The status of LINK_RX k (R116): OPEN where the entry is FREE. -/
def receivedCopy (k : Nat) (d : Device) : CopyStatus :=
  match (slotEntry k d).owner, (slotEntry k d).copy with
  | none, _ => .openCopy
  | some _, some c => c
  | some _, none => .unknown

/-- The present status of TAPE (R117). -/
def tapeCopy (d : Device) : CopyStatus :=
  let segment := if d.ring.play.state = .running then
      (match heldIn .playout d.ring.play.position.segment d with
      | some r => subcodeCopy r.subcode
      | none => subcodeCopy d.decoder.playCarry) else .openCopy
  let feed := match sourceFor .recordFeed d with
    | .lineIn => (cfg d).original
    | .linkRx k => receivedCopy k d
    | _ => .openCopy
  if d.edit.insertion.isSome then moreRestrictive segment feed else segment

/-- The present status of CONFIDENCE (R118). -/
def confidenceCopy (d : Device) : CopyStatus :=
  if d.ring.conf.running then
    (match heldIn .confOut d.ring.conf.position.segment d with
    | some r => subcodeCopy r.subcode
    | none => .unknown) else .openCopy

/-- Three block tallies. -/
def tallyField (t : Tally) : List Byte := numberField 1 t.mended ++ numberField 1 t.recovered ++ numberField 1 t.lost

/-- The state of a slot: 0 to 10 in the order of the slot state table, ENCODED with stripe A written 11 (R197). -/
def slotStateField : Option Segment → List Byte
  | none => numberField 1 0
  | some r =>
    if r.state = .encoded ∧ r.writtenA = true then numberField 1 11
    else numberField 1 (1 + [SlotState.gather, .fill, .decoded, .playout, .encoding, .encoded, .written, .verify,
      .checked, .confOut].idxOf r.state)

/-- One slot of the slot listing (R20): state, number, late flag, advance and confidence tallies. -/
def slotListing (r : Option Segment) : List Byte :=
  slotStateField r ++ presentField 3 (fun r => numberField 3 r.number) r ++ presentField 1 (fun r => flagField r.late) r ++
  presentField 3 (fun r => tallyField r.advanceTally) r ++ presentField 3 (fun r => tallyField r.confidenceTally) r

/-- Motion and mode; the playouts and the slot listing (R20); recording and encoding (R43). The play position of a
segment whose end is due is that of the pair that follows, the confidence position stands (log 8). -/
def tapeGroups (d : Device) : List Byte :=
  motionField d.port.motion ++ enumField [Mode.play, .record, .insert] d.port.mode ++
  enumField [PlayState.stopped, .prefill, .running] d.ring.play.state ++ placeField (normalPosition d.ring.play.position) ++
  flagField d.ring.conf.running ++
  presentField 5 placeField (if d.ring.conf.running then some d.ring.conf.position else none) ++
  d.ring.slots.flatMap slotListing ++
  enumField [RecorderState.idle, .awaitOrigin, .filling] d.recorder.state ++
  presentField 3 (numberField 3) d.recorder.origin ++
  presentField 5 (fun p => placeField (normalPosition p)) d.recorder.fill ++ flagField d.recorder.markOwed ++
  numberField 1 (d.recorder.program.getD 255) ++ presentField 3 (fun j => numberField 3 j.segment) d.encoder.inFlight ++
  presentField 3 (numberField 3) d.encoder.horizon

/-- Decoding and search (R64); the contexts and the active kernel (R83). -/
def decodeGroups (d : Device) : List Byte :=
  let head := fun (h : Head) => enumField [Head.a, .b] h
  let expectation := fun (e : Expectation) => numberField 3 e.segment ++ head e.head
  let context := fun (x : Context) =>
    enumField [ContextState.clean, .holding, .fadingOut, .muted, .fadingIn] x.state ++ numberField 2 x.gain ++
    numberField 1 x.holdRun ++ numberField 1 x.recoveryRun
  numberField 1 d.decoder.queue.length ++
  presentField 5 (fun q : QueuedStripe =>
    enumField [TapeStream.advance, .confidence] q.stream ++ numberField 3 q.segment ++ head q.head)
    (if d.decoder.inFlight then d.decoder.queue.head? else none) ++
  presentField 4 expectation d.decoder.advance ++ presentField 4 expectation d.decoder.confidence ++
  flagField d.decoder.playCarry.isNone ++ flagField d.decoder.confCarry.isNone ++
  d.search.patterns.flatMap (fun p =>
    flagField p.enabled ++ numberField 1 p.matches_ ++ presentField 3 (numberField 3) p.lastHit) ++
  context d.conceal.playLeft ++ context d.conceal.playRight ++ context d.conceal.confLeft ++
  context d.conceal.confRight ++ numberField 1 (cfg d).kernel

/-- The sequencer and the Edit Ring (R113); the Copy Gate (R129), with twelve entries for the driven slots (log 17). -/
def editGroups (d : Device) : List Byte :=
  let entries := fun (p : Entry → Bool) => d.edit.places.countP (fun o => match o with | some e => p e | none => false)
  enumField [SeqState.idle, .waiting, .inserting] d.edit.state ++
  presentField 1 (enumField [Phase.fadeIn, .full, .fadeOut]) d.edit.phase ++ numberField 2 d.edit.gain ++
  presentField 1 (numberField 1) d.edit.insertion ++ presentField 1 (numberField 1) (headOfWork d) ++
  numberField 1 d.edit.tail ++ numberField 1 d.edit.head ++ numberField 1 (entries (fun _ => true)) ++
  numberField 1 (entries (fun e => e.report == .waiting)) ++
  sourceField d.gate.feedSource ++ copyField d.gate.feedStatus ++ presentField 1 copyField d.gate.recordedRun ++
  enumField [Decision.opened, .shut] d.gate.lastDecision ++ copyField (tapeCopy d) ++ copyField (confidenceCopy d) ++
  (List.range 12).flatMap (fun k =>
    presentField 3 (fun r : Relay => presentField 1 copyField r.history.head? ++ flagField r.heldBack)
      (if drivesSlot k d then some (relayOf k d) else none))

/-- The Link Port (R152) and the Chase Unit (R182). -/
def linkGroups (d : Device) : List Byte :=
  let l := d.link
  let c := d.chase
  enumField [Attachment.off, .listen, .align, .attached] l.attachment ++
  numberField 1 (match l.attachment with | .listen => l.listenWait | .align => l.alignCount | _ => l.frameCount) ++
  enumField [Receiver.idle, .skip, .receiving] l.receiver ++ numberField 1 l.quiet ++ numberField 1 l.yieldCount ++
  numberField 1 l.echoRun ++ numberField 1 l.queue.length ++
  presentField 4 (fun m : Queued =>
    numberField 1 m.kind ++ numberField 1 m.destination ++ numberField 1 m.losses ++ flagField m.sent.isSome)
    l.queue.head? ++
  numberField 1 l.bad ++
  enumField [ChaseState.off, .waiting, .seeking, .catching, .locked, .holdover] c.state ++
  presentField 1 (numberField 1) c.leadSlot ++ presentField 1 (numberField 1) c.leadOwner ++
  presentField 5 (signedField 5) c.offset ++ signedField 2 c.trim ++ presentField 5 (signedField 5) c.error ++
  signedField 1 c.correction ++ enumField [WindRequest.none_, .windFwd, .windRev] c.wind ++ numberField 1 c.lockRun ++
  numberField 2 (if c.state = .holdover then c.holdoverCount else c.wordGap) ++
  presentField 5 (fun w : LeadWord =>
    numberField 5 (480 * w.position.segment + w.position.offset + if w.motion = .playing then w.age else 0)) c.leadWord ++
  presentField 5 (numberField 5) c.ownLatch

/-- STATUS_READ's data: the groups in the order of R192, the table port and the two event sets last. -/
def statusLayout (d : Device) : List Byte :=
  tapeGroups d ++ decodeGroups d ++ editGroups d ++ linkGroups d ++
  enumField [TableName.fade, .kernel] d.port.table ++ numberField 1 d.port.address ++ flagField d.port.endWritten ++
  numberField 3 d.events.pending.toNat ++ numberField 3 d.events.enabled.toNat

/-- SLOTS_READ's data: twelve entries in slot order (R171). -/
def slotsLayout (d : Device) : List Byte :=
  (List.range 12).flatMap (fun k =>
    let e := slotEntry k d
    flagField e.owner.isSome ++ presentField 1 (numberField 1) e.owner ++ copyField (receivedCopy k d) ++
    presentField 6 (fun w : WordPosition => placeField w.position ++ motionField w.motion) e.lastWord ++
    numberField 2 e.absence ++ numberField 1 e.invalidRun ++ flagField e.ownClaim ++
    enumField [OwnRelease.none_, .owed, .queued] e.ownRelease ++
    presentField 1 (enumField [Drive.driving, .stopped])
      (if e.owner = some (cfg d).station then e.drive else none))

/-- COUNTERS_READ's data: the three block counters, then the two concealment counters (R82). -/
def countersLayout (c : CounterSet) : List Byte :=
  numberField 2 c.mended ++ numberField 2 c.recovered ++ numberField 2 c.lost ++ numberField 2 c.concealed ++
  numberField 2 c.mutes

/-- A rise by `k` takes a counter to its threshold, or past it, from below (R81). -/
def passesThreshold (stream : Playback) (n : CounterName) (k : Nat) (d : Device) : Prop :=
  let before := (countersOf stream d).value n
  0 < threshold stream n d ∧ before < threshold stream n d ∧ threshold stream n d ≤ min 65535 (before + k)

/-! ### Word reference periods -/

/-- A configured device whose Link Port is OFF. -/
def offLink (d : Device) : Prop :=
  d.resetHeld = false ∧ configured d = true ∧ (cfg d).linkMode = .off ∧ d.link.attachment = .off ∧ d.link.queue = []

/-- No period count of the chase comes to its end in the next period (R178, R179). -/
def chaseStands (d : Device) : Prop :=
  (chaseRunning d.chase = true → d.chase.wordGap + 1 < 512) ∧
  (d.chase.state = .holdover → d.chase.holdoverCount + 1 < 4096)

/-- The chase's counts of one period: the age of the lead word, the word gap and the holdover count (R174, R178,
R179). -/
def chaseCounted (c : Chase) : Chase :=
  { c with
    leadWord := c.leadWord.map (fun w => { w with age := w.age + 1 })
    wordGap := if chaseRunning c then c.wordGap + 1 else c.wordGap
    holdoverCount := if c.state = .holdover then c.holdoverCount + 1 else c.holdoverCount }

/-- The play playout is STOPPED and a condition of R8 for PREFILL does not hold. -/
def playStays (d : Device) : Prop :=
  d.ring.play.state = .stopped ∧ (d.port.motion ≠ .playing ∨ d.port.mode = .record ∨ d.ring.play.ended = true)

/-- The confidence playout is STOPPED and finds no CHECKED segment (R16). -/
def confStays (d : Device) : Prop := d.ring.conf.running = false ∧ noneIn [.checked] d

/-- Nothing of the tape happens in the next period: both playouts stay STOPPED, nothing fills, no insertion runs, and no
count of the chase comes to its end. -/
def deckRests (d : Device) : Prop :=
  d.resetHeld = false ∧ configured d = true ∧ shaped d ∧ chaseStands d ∧ playStays d ∧ confStays d ∧
  d.recorder.state ≠ .filling ∧ d.edit.insertion = none

/-- The delivery of the pair at an offset makes no segment end fall in the period itself (log 3). -/
def endsLater (offset : Nat) (w : Period) : Prop := offset < 479 ∨ (offset = 479 ∧ w.order.endsApart = true)

/-- What the sources give in a period in which both playouts are silent. -/
def silentTape (w : Period) (d : Device) : Supply :=
  { line := w.lineIn, received := d.link.received, tape := silence, confidence := silence }

/-- RECORD_FEED's pair and status in a period (R119). -/
def feedIn (w : Period) (d : Device) : Supplied := supplied (sourceFor .recordFeed d) (silentTape w d) d

/-- The pair of MAIN_OUT, of the sources in `u`. -/
def mainPair (u : Supply) (d : Device) : Pair := (supplied (sourceFor .mainOut d) u d).pair

/-- The pair of MONITOR_OUT. -/
def monitorPair (u : Supply) (d : Device) : Pair := (supplied (sourceFor .monitorOut d) u d).pair

/-- The meters after the pairs of a period (R169). -/
def metered (u : Supply) (d : Device) : Router :=
  { d.router with
    mainLeft := max d.router.mainLeft (mainPair u d).left.toInt.natAbs
    mainRight := max d.router.mainRight (mainPair u d).right.toInt.natAbs
    monitorLeft := max d.router.monitorLeft (monitorPair u d).left.toInt.natAbs
    monitorRight := max d.router.monitorRight (monitorPair u d).right.toInt.natAbs }

/-- The outputs of a period off the link (R130, R168). -/
def offLinkOutputs (u : Supply) (d : Device) : Outputs :=
  { d.outputs with main := mainPair u d, monitor := monitorPair u d, driven := recessiveFrame }

/-- The Copy Gate with the feed of the period noted (R129). -/
def feedNoted (w : Period) (d : Device) : Gate :=
  { d.gate with feedSource := sourceFor .recordFeed d, feedStatus := (feedIn w d).status }

/-! ### One sample of a channel context (04) -/

/-- R69, R70: the value read of a GOOD sample, the interpolated value of a LOST one, or none for a held LOST sample. The
neighbours at p−3, p−1, p+1 and p+3 are given where they are available and GOOD, `k` is the active kernel. -/
def goodFaith (s : ReadSample) (b3 b1 f1 f3 : Option Int) (k : Nat → Int) : Option Int :=
  if s.good then some s.value.toInt
  else
    match b1, f1 with
    | some x, some y =>
      some (max (-8388608) (min 8388607 (match b3, f3 with
        | some w, some z => Int.fdiv (k 0 * w + k 1 * x + k 2 * y + k 3 * z) 64
        | _, _ => Int.fdiv (x + y) 2)))
    | _, _ => none

/-- The gain of a sample, recovering or held, by the state that takes it (R72 to R76). -/
def sampleGain (limit : Nat) (recovers : Bool) (x : Context) : Nat :=
  match x.state with
  | .clean => 256
  | .holding => if recovers = true ∨ x.holdRun + 1 ≤ limit then 256 else 252
  | .fadingOut => x.fadeStart.getD 0 - x.fadeStart.getD 0 * (x.fadeStep + 1) / 64
  | .muted => 0
  | .fadingIn => if recovers then 4 * (x.fadeStep + 1) else x.gain - x.gain / 64

/-- The state, the fade and the runs of a context after a sample and the ends that follow it (R72 to R76; log 23 for the
fade step and the runs outside the states that use them). -/
def contextAfter (limit count : Nat) (recovers : Bool) (x : Context) : Context :=
  match x.state, recovers with
  | .clean, true => { x with holdRun := 0 }
  | .clean, false => { x with state := .holding, holdRun := 1 }
  | .holding, true => { x with state := .clean, holdRun := 0 }
  | .holding, false =>
    if x.holdRun + 1 ≤ limit then { x with holdRun := x.holdRun + 1 }
    else { x with state := .fadingOut, fadeStart := some 256, fadeStep := 1, holdRun := 0 }
  | .fadingOut, _ =>
    if 64 ≤ x.fadeStep + 1 then { x with state := .muted, recoveryRun := 0, fadeStart := none, fadeStep := 0 }
    else { x with fadeStep := x.fadeStep + 1 }
  | .muted, true =>
    if count ≤ x.recoveryRun + 1 then
      { x with state := .fadingIn, recoveryRun := 0, fadeStart := some 0, fadeStep := 0 }
    else { x with recoveryRun := x.recoveryRun + 1 }
  | .muted, false => { x with recoveryRun := 0 }
  | .fadingIn, true =>
    if 64 ≤ x.fadeStep + 1 then { x with state := .clean, fadeStart := none, fadeStep := 0, holdRun := 0 }
    else { x with fadeStep := x.fadeStep + 1 }
  | .fadingIn, false =>
    if 0 < x.gain then { x with state := .fadingOut, fadeStart := some x.gain, fadeStep := 1 }
    else { x with state := .muted, recoveryRun := 0, fadeStart := none, fadeStep := 0 }

/-- A sample as a context returns it. -/
structure SampleOut where
  context : Context
  value : Sample
  mark : Mark
  lost : Bool
  mutes : Bool

/-- The sample a playout gives a context at a position, and what the context makes of it (R65 to R76): its record, the
value delivered, the mark, whether the sample was LOST, and whether it ends a fade-out. -/
def sampleTaken (c : ContextId) (pos : Position) (current : Option Segment) (d : Device) : SampleOut :=
  let x := contextOf c d
  let h := historyFor pos x
  let s := readSample c.channel pos.offset current
  let v := goodFaith s (goodValue (historyAt 3 h)) (goodValue (historyAt 1 h))
    (goodValue (forwardNeighbour c pos.segment pos.offset 1 current d))
    (goodValue (forwardNeighbour c pos.segment pos.offset 3 current d))
    (fun t => d.conceal.kernel.getD (4 * (cfg d).kernel + t) 0)
  let hold := match v with | some y => BitVec.ofInt 24 y | none => x.hold
  let g := sampleGain (cfg d).holdLimit v.isSome x
  { context :=
      { contextAfter (cfg d).holdLimit (cfg d).recoveryCount v.isSome x with
        gain := g, hold := hold, history := (h ++ [s]).drop ((h ++ [s]).length - 3), last := some pos }
    value := BitVec.ofInt 24 (Int.fdiv (hold.toInt * g) 256)
    mark := if g = 256 then (if s.good then .passed else if v.isSome then .interpolated else .held) else .muted
    lost := !s.good
    mutes := x.state == .fadingOut && decide (64 ≤ x.fadeStep + 1) }

/-- A counter raised by a number of happenings, saturating (R80). -/
def raisedBy (k before : Nat) : Nat := if k = 0 then before else min 65535 (before + k)

/-- The counters of a stream after the two samples of a pair (R80). -/
def countedPair (l r : SampleOut) (c : CounterSet) : CounterSet :=
  { c with
    concealed := raisedBy (l.lost.toNat + r.lost.toNat) c.concealed
    mutes := raisedBy (l.mutes.toNat + r.mutes.toNat) c.mutes }

/-- The pair of two samples. -/
def pairTaken (l r : SampleOut) : Pair := { left := l.value, right := r.value }

/-- The old audio after a pair is delivered: the values delivered with their marks, the flags kept (R3). -/
def audioDelivered (o : Nat) (p : Pair) (l r : SampleOut) (audio : List OldPair) : List OldPair :=
  audio.modify o (fun x =>
    { left := { x.left with value := p.left, mark := some l.mark }
      right := { x.right with value := p.right, mark := some r.mark } })

/-- MUTE is pending with the detail of the sample that ended a fade-out, the right channel's where both did (the model's
choice, log 29). -/
def mutesLatched (stream : Playback) (n : Nat) (l r : SampleOut) (d : Device) : Prop :=
  (r.mutes = true → isLatched (.muted stream .right n) d) ∧
  (l.mutes = true → r.mutes = false → isLatched (.muted stream .left n) d)

/-- The play playout has delivered pair n:o as the samples `l` and `r` (R10): their contexts, the counters, the
position, and nothing of the ring but slot n. -/
def playDelivered (n o : Nat) (l r : SampleOut) (before after : Device) : Prop :=
  contextOf ⟨.play, .left⟩ after = l.context ∧ contextOf ⟨.play, .right⟩ after = r.context ∧
  (∀ ch, contextOf ⟨.confidence, ch⟩ after = contextOf ⟨.confidence, ch⟩ before) ∧
  after.conceal.kernel = before.conceal.kernel ∧
  after.counters = { before.counters with play := countedPair l r before.counters.play } ∧
  mutesLatched .play n l r after ∧
  after.ring.play = { before.ring.play with position := { segment := n, offset := o + 1 } } ∧
  after.ring.conf = before.ring.conf ∧ (∀ m, m % 16 ≠ n % 16 → slotOf m after = slotOf m before) ∧
  after.port = before.port ∧ after.recorder = before.recorder ∧ after.decoder = before.decoder ∧
  after.encoder = before.encoder ∧ after.search = before.search ∧ after.config = before.config

/-! ### One frame of an ATTACHED station -/

/-- This station drives slot `k` (R164). -/
def slotDriven (k : Nat) (d : Device) : Bool :=
  (slotEntry k d).owner == some (cfg d).station && (slotEntry k d).drive == some .driving

/-- What the Router gives LINK_TX `k` of the sources in `u` (R168). -/
def transmitted (u : Supply) (k : Nat) (d : Device) : Supplied := supplied (sourceFor (.linkTx k) d) u d

/-- The relay history of a driven slot in the frame: frame 0 takes the source's status into it (R126). -/
def frameHistory (u : Supply) (k : Nat) (d : Device) : List CopyStatus :=
  if d.link.frameCount = 0 then ((transmitted u k d).status :: (relayOf k d).history).take 3 else (relayOf k d).history

/-- The status word of a driven slot in the frame: frame 0 latches it, with the own position `pos` (R165). -/
def frameWord (u : Supply) (pos : Position) (k : Nat) (d : Device) : Option (BitVec 64) :=
  if d.link.frameCount = 0 then
    some (makeWord { owner := (cfg d).station, copy := (transmitted u k d).status, motion := d.port.motion
                     position := pos })
  else (relayOf k d).word

/-- A driven slot is held back: a code of its history is less restrictive than its source's status (R127). -/
def slotHeldBack (u : Supply) (k : Nat) (d : Device) : Bool :=
  (frameHistory u k d).any (fun x => decide (copyRank x < copyRank (transmitted u k d).status))

/-- The frame of a station that sends nothing: the marker at frame 0, and in each slot it drives the present bit, the
bit of the status word and the pair routed to it, silence where held back; every other bit recessive (R130, R164). -/
def frameDriven (u : Supply) (pos : Position) (d : Device) : Frame :=
  { marker := d.link.frameCount == 0
    message := false
    slots := (List.range 12).map (fun k =>
      if slotDriven k d then
        { present := true
          status := match frameWord u pos k d with
            | some x => !x.getLsbD (63 - d.link.frameCount)
            | none => false
          samples := if slotHeldBack u k d then silentPair else (transmitted u k d).pair }
      else recessiveSlot) }

/-- The frame the station reads: its own in LOOP (R137). -/
def frameHeard (w : Period) (u : Supply) (pos : Position) (d : Device) : Frame :=
  if (cfg d).linkMode = .loop then frameDriven u pos d else w.frame

/-- A period below frame 63 at the link, the Router, the gate's notes and the chase of an ATTACHED station that sends
and receives no message: the frame is driven and read (R126 to R131, R162 to R166, R168, R169, R174). -/
def frameTaken (w : Period) (u : Supply) (pos : Position) (before after : Device) : Prop :=
  let c := before.link.frameCount
  let f := frameHeard w u pos before
  after.outputs = { before.outputs with
    main := mainPair u before, monitor := monitorPair u before
    driven := if (cfg before).linkMode = .loop then recessiveFrame else frameDriven u pos before } ∧
  after.router = metered u before ∧
  after.link = { before.link with
    frameCount := c + 1
    quiet := min 255 (before.link.quiet + 1)
    yieldCount := if 12 + before.link.yieldCount ≤ before.link.quiet then 0 else before.link.yieldCount
    misplacedPrevious := if c = 0 then before.link.misplacedThis else before.link.misplacedPrevious
    misplacedThis := if c = 0 then false else before.link.misplacedThis
    words := (List.range 12).map (fun k =>
      before.link.words.getD k 0 <<< 1 ||| (if (slotBits k f).status then 0 else 1))
    received := (List.range 12).map (fun k =>
      if (slotEntry k before).owner.isSome && (slotBits k f).present then (slotBits k f).samples else silentPair) } ∧
  (∀ k, k ≤ 11 → slotEntry k after = { slotEntry k before with
    absence :=
      if (slotEntry k before).owner ≠ none ∧ (slotEntry k before).owner ≠ some (cfg before).station ∧
        (slotBits k f).present = false then (slotEntry k before).absence + 1 else 0
    invalidRun := if c = 0 ∧ slotDriven k before = true ∧ (relayOf k before).word = none then 0
      else (slotEntry k before).invalidRun }) ∧
  (∀ k, k ≤ 11 → relayOf k after =
    if slotDriven k before then
      { history := frameHistory u k before, word := frameWord u pos k before, heldBack := slotHeldBack u k before }
    else relayOf k before) ∧
  after.gate.feedSource = sourceFor .recordFeed before ∧ after.gate.feedStatus = (feedIn w before).status ∧
  after.gate.recordedRun = before.gate.recordedRun ∧ after.gate.lastDecision = before.gate.lastDecision ∧
  after.chase = { chaseCounted before.chase with
    ownLatch := if c = 0 then some (sampleCount pos) else before.chase.ownLatch }

/-- The frame heard carries no message bit, no marker out of place, and no absence that comes to its end (R135, R139,
R162). -/
def frameQuiet (f : Frame) (d : Device) : Prop :=
  f.message = false ∧ (f.marker = true → d.link.frameCount = 0) ∧
  ∀ k, k ≤ 11 → (slotBits k f).present = true ∨ (slotEntry k d).absence + 1 < 2400

/-! ### Insertions -/

/-- The sequencer's state as R92 derives it. -/
def derivedState (d : Device) : SeqState :=
  if d.edit.insertion.isSome then .inserting else if (headOfWork d).isSome then .waiting else .idle

/-- The head of work, if there is one, has a target at the position or behind it, or waits for a search hit (R93,
R94). -/
def headStands (pos : Position) (d : Device) : Prop :=
  ∀ h e, headOfWork d = some h → entryAt h d = some e →
    (∃ t, e.target = some t ∧ sampleCount pos ≤ sampleCount t) ∨
    (e.target = none ∧ ∃ p o, e.post.trigger = .search p o)

/-- No entry fires or retires at the pair of a position: the sequencer's state is as derived, and the head of work, if
there is one, has a later target or waits for a search hit (R92 to R95). -/
def headWaits (pos : Position) (d : Device) : Prop :=
  d.edit.state = derivedState d ∧ headStands pos d ∧ ∀ h, headOfWork d = some h → targetOf h d ≠ some pos

/-- An entry's target, where it has one, lies behind the pair of a position in the playout's order: it neither fires nor
retires at that pair (R94, R95). -/
def waitsLater (pos : Position) (x : Entry) : Prop := ∀ t, x.target = some t → sampleCount pos < sampleCount t

/-- The curve of a fade of length F and shape h at step i, over the fade table (R97). -/
def curveAt (table : List Nat) (length shape i : Nat) : Int :=
  let t : Nat → Int := fun j => if j = 16 then 256 else ((table.getD (16 * shape + j) 0 : Nat) : Int)
  let j := 16 * i / length
  if length ≤ i then 256 else t j + Int.fdiv ((t (j + 1) - t j) * (16 * i - j * length)) length

/-- The gain of the next pair of an insertion (R97, R98). -/
def insertGain (e : Edit) : Nat :=
  match e.phase, e.fade with
  | some .full, _ => 256
  | some .fadeIn, some f => (curveAt e.fadeTable f.length f.shape (f.step + 1)).toNat
  | some .fadeOut, some f =>
    (Int.fdiv (f.start * (256 - curveAt e.fadeTable f.length f.shape (f.step + 1))) 256).toNat
  | _, _ => 0

/-- Old and new mixed at a gain, by channel (R99). -/
def mixedPair (g : Nat) (old new : Pair) : Pair :=
  { left := BitVec.ofInt 24 (Int.fdiv (old.left.toInt * (256 - g) + new.left.toInt * g) 256)
    right := BitVec.ofInt 24 (Int.fdiv (old.right.toInt * (256 - g) + new.right.toInt * g) 256) }

/-- A stripe is numbered `n`: by its VALID subcode, or by the stream's expectation (R44). -/
def isNumbered (e : Option Expectation) (h : Head) (x : Option Subcode) (n : Nat) : Prop :=
  match x with
  | some x => n = x.segment
  | none => ∃ y, e = some y ∧ if y.head = .a ∧ h = .b then n = y.segment else (y.segment < lastSegment ∧ n = y.segment + 1)

/-- A stripe can have no number: no VALID subcode, and no expectation or none past the last segment (R44). -/
def isUnnumbered (e : Option Expectation) (h : Head) (x : Option Subcode) : Prop :=
  x = none ∧ ∀ y, e = some y → ¬ (y.head = .a ∧ h = .b) ∧ lastSegment ≤ y.segment

/-- No stripe of a record's stream is outstanding (R48): the queue holds none of its heads taken. -/
def nothingOutstanding (st : TapeStream) (r : Segment) (d : Device) : Prop :=
  ∀ q ∈ d.decoder.queue, q.stream = st → q.segment = r.number → takenFlag st q.head r = false

/-- The confidence decode of a head is in the record's old audio: taken, no longer queued, and the segment was not taken
over (R6, R56). -/
def isStored (h : Head) (r : Segment) (d : Device) : Bool :=
  takenFlag .confidence h r && !r.late &&
    !d.decoder.queue.any (fun q => q.stream == .confidence && q.segment == r.number && q.head == h)

/-- The lost tally a record closes to CHECKED with: 32 for each stripe whose decode was not stored (R56). -/
def closedLost (r : Segment) (d : Device) : Nat :=
  min 255 (r.confidenceTally.lost +
    ((if isStored .a r d then 0 else 32) + (if isStored .b r d then 0 else 32)))

/-- A record closed to CHECKED (R56). -/
def closedRecord (r : Segment) (d : Device) : Segment :=
  { r with state := .checked, confidenceTally := { r.confidenceTally with lost := closedLost r d } }

/-- The judgement of an update by the table of R176: the state, the cause where it changes, and the lock run. `m` is the
error's magnitude, `run` the lock run found, 0 where the lead is new. -/
def chaseTable (found : ChaseState) (newLead : Bool) (run m : Nat) : ChaseState × Option ChaseCause × Nat :=
  let row := fun (far mid near lock : ChaseState × Option ChaseCause × Nat) =>
    if 4800 < m then far else if 16 < m then mid else if 4 < m then near else lock
  match found with
  | .off => (.off, none, run)
  | .waiting =>
    row (.seeking, some .far, run) (.catching, some .near, 0) (.catching, some .near, 0) (.catching, some .near, 1)
  | .seeking =>
    row (.seeking, none, run) (.catching, some .near, 0) (.catching, some .near, 0) (.catching, some .near, 1)
  | .catching =>
    row (.seeking, some .far, 0) (.catching, none, 0) (.catching, none, 0)
      (if run + 1 < 8 then (.catching, none, run + 1) else (.locked, some .locked, 8))
  | .locked =>
    if newLead then
      row (.seeking, some .newLead, 0) (.catching, some .newLead, 0) (.catching, some .newLead, 0)
        (.catching, some .newLead, 1)
    else row (.seeking, some .slip, 0) (.catching, some .slip, 0) (.locked, none, run) (.locked, none, run)
  | .holdover =>
    row (.seeking, some .return_, 0) (.catching, some .return_, 0) (.catching, some .return_, 0)
      (.catching, some .return_, 1)

end Sys2Proof.Machine
end

