-- ==== Sys2Proof/Certificates/Slice0/Obligations.lean ====
section
/-! DEFINITION. The statements for the provers, in the order of OBLIGATIONS.json. -/

section Statements

open Sys2Proof Sys2Proof.Machine

/-! ### The queue, the resets and the exchange -/

/-- A step takes the command at the front of the queue and runs it with the queue's rest; on an empty queue the block
idles (the model's choice, log 1). -/
def Obligations.StepRunsFrontCommand : Prop :=
  (∀ (c : Instr) (rest : List Instr) (s : State), s.pending = c :: rest →
    step s = exec c { s with pending := rest }) ∧
  ∀ s : State, s.pending = [] → step s = .next s

/-- Every command has a next state, and leaves the queue alone: no command stops the device. The queue is the model's
(log 1), and so is the reading that a command whose event cannot happen changes nothing (log 25). -/
def Obligations.EveryCommandCompletes : Prop :=
  ∀ (c : Instr) (s : State), ∃ d : Device, exec c s = .next (s.withDev d)

/-- RESET holds the device at its reset values with ATTN released; its release and power-on leave them (R193). The flag
that RESET is held is the model's (log 10), and so are the values of the fields whose reset value the manual does not
state (log 22). -/
def Obligations.ResetsLeaveResetValues : Prop :=
  ∀ s : State,
    exec .powerOn s = .next (s.withDev Device.reset) ∧
    exec .resetRelease s = .next (s.withDev Device.reset) ∧
    exec .resetAssert s = .next (s.withDev ({ Device.reset with resetHeld := true })) ∧
    attn { Device.reset with resetHeld := true } = false

/-- The values the manual states for power-on and the reset line, block by block: the Control Port, the events, the ring
and its playouts, recorder, encoder, decoder, Search Unit, contexts and kernels, counters, the Edit Ring with its
sequencer and fade table, the Copy Gate, the Router with its meters, the Link Port, the Slot Table and the chase. That
no command waits is the model's (log 1). -/
def Obligations.ResetValuesOfTheManual : Prop :=
  let d := State.reset.dev
  (d.config = none ∧ d.port.motion = .stopped ∧ d.port.mode = .play ∧ d.port.table = .fade ∧
    d.port.address = 0 ∧ d.port.endWritten = false ∧ d.port.transaction = .idle ∧
    d.events.pending = 0 ∧ d.events.enabled = 0 ∧ (∀ k, d.events.details.getD k none = none) ∧ attn d = false) ∧
  ((∀ n, slotOf n d = none) ∧ d.ring.play.state = .stopped ∧ d.ring.play.position = { segment := 0, offset := 0 } ∧
    d.ring.conf.running = false ∧ d.recorder.state = .idle ∧ d.recorder.origin = none ∧ d.recorder.fill = none ∧
    d.recorder.markOwed = false ∧ d.recorder.program = none ∧ d.encoder.inFlight = none ∧ d.encoder.last = none ∧
    d.encoder.horizon = none ∧ d.encoder.errorLeft = 0 ∧ d.encoder.errorRight = 0) ∧
  (d.decoder.queue = [] ∧ d.decoder.inFlight = false ∧ d.decoder.advance = none ∧ d.decoder.confidence = none ∧
    d.decoder.playCarry = none ∧ d.decoder.confCarry = none ∧ d.search.compared = none ∧ d.search.awaiting = none ∧
    d.search.patterns.length = 4 ∧
    ∀ p ∈ d.search.patterns, p =
      { enabled := false, programValue := 0, programMask := 0, indexValue := false, indexCompared := false
        stationValue := 0, stationMask := 0, labelValues := List.replicate 4 0, labelMasks := List.replicate 4 0
        segmentEnabled := false, segmentValue := 0, count := 1, matches_ := 0, lastHit := none }) ∧
  ((∀ c, contextOf c d =
      { state := .muted, gain := 0, fadeStart := none, fadeStep := 0, hold := 0, holdRun := 0, recoveryRun := 0
        history := [], last := none }) ∧
    d.conceal.kernel = [0, 32, 32, 0, -4, 36, 36, -4, -2, 34, 34, -2, 8, 24, 24, 8] ∧
    ∀ stream n, (countersOf stream d).value n = 0) ∧
  ((∀ p, entryAt p d = none) ∧ d.edit.tail = 0 ∧ d.edit.head = 0 ∧ d.edit.state = .idle ∧ d.edit.phase = none ∧
    d.edit.insertion = none ∧ d.edit.gain = 0 ∧ d.edit.fade = none ∧
    d.edit.touch = { insertion := none, marks := [], spoiled := false } ∧
    d.edit.fadeTable =
      (List.range 16).map (fun j => 16 * j) ++
      [0, 25, 50, 74, 98, 121, 142, 162, 181, 198, 213, 226, 237, 245, 251, 255] ++
      (List.range 16).map (fun j => j * j) ++ (List.range 16).map (fun j => 256 - (16 - j) * (16 - j))) ∧
  (d.gate.lastDecision = .opened ∧ d.gate.recordedRun = none ∧ (∀ k, (relayOf k d).history = []) ∧
    d.router.routes =
      [{ source := .tape, destination := .mainOut, enabled := true },
       { source := .lineIn, destination := .recordFeed, enabled := true },
       { source := .confidence, destination := .monitorOut, enabled := true }] ++
      List.replicate 5 { source := .silence, destination := .mainOut, enabled := false } ∧
    d.router.mainLeft = 0 ∧ d.router.mainRight = 0 ∧ d.router.monitorLeft = 0 ∧ d.router.monitorRight = 0) ∧
  (d.link.attachment = .off ∧ d.link.listenWait = 0 ∧ d.link.alignCount = 0 ∧ d.link.frameCount = 0 ∧
    d.link.misplacedThis = false ∧ d.link.misplacedPrevious = false ∧ d.link.receiver = .idle ∧ d.link.skipRun = 0 ∧
    d.link.quiet = 0 ∧ d.link.bits = [] ∧ d.link.yieldCount = 0 ∧ d.link.echoRun = 0 ∧ d.link.queue = [] ∧
    d.link.bad = 0 ∧
    ∀ k, slotEntry k d = { owner := none, copy := none, lastWord := none, absence := 0, invalidRun := 0
                           ownClaim := false, ownRelease := .none_, drive := none }) ∧
  d.chase = { state := .off, leadSlot := none, leadOwner := none, offset := none, trim := 0, ownLatch := none
              leadWord := none, error := none, correction := 0, wind := .none_, lockRun := 0, wordGap := 0
              holdoverCount := 0 } ∧
  State.reset.pending = []

/-- CPSEL opens a transaction with no octets and no response, and its release ends it; while RESET is asserted the port
ignores both. A frame clocked in outside COMMAND, or while RESET is asserted, is no command: nothing changes. A complete
frame is judged before its command's rule: an unknown code is BAD_ARG, an unconfigured device answers NOT_CONFIGURED to
every command but CONFIGURE, and a wrong length is BAD_ARG. None of these changes any other state. -/
def Obligations.ExchangeFramesAndJudges : Prop :=
  (∀ s : State,
    (s.dev.resetHeld = false →
      exec .cpselAssert s = .next (s.withDev ({ s.dev with port := { s.dev.port with
        transaction := .command, octets := [], response := none } })) ∧
      exec .cpselRelease s = .next (s.withDev ({ s.dev with port := { s.dev.port with
        transaction := .idle, response := none } }))) ∧
    (s.dev.resetHeld = true → exec .cpselAssert s = .next s ∧ exec .cpselRelease s = .next s)) ∧
  (∀ (c : Instr) (s : State),
    (commandFrame c ≠ none ∨ ∃ code args, c = .unknownCode code args) →
    (s.dev.resetHeld = true ∨ s.dev.port.transaction ≠ .command) → exec c s = .next s) ∧
  ∀ s : State, frameOpen s.dev →
    (∀ (code : Byte) (args : List Byte),
      exec (.unknownCode code args) s = .next (s.withDev (answered code args (answer .badArg) s.dev))) ∧
    ∀ (c : Instr) (code : Byte) (length : Nat) (args : List Byte), commandFrame c = some (code, length, args) →
      (configured s.dev = false → code ≠ 1 →
        exec c s = .next (s.withDev (answered code args (answer .notConfigured) s.dev))) ∧
      ((configured s.dev = true ∨ code = 1) → args.length ≠ length →
        exec c s = .next (s.withDev (answered code args (answer .badArg) s.dev)))

/-- CONFIGURE: refused once configured, BAD_ARG for a field out of range, and otherwise the block is in force, the
generator is seeded with station + 1 and the Link Port leaves OFF by its link mode. -/
def Obligations.ConfigureTakesBlockOnce : Prop :=
  ∀ (args : List Byte) (s : State), frameOpen s.dev → args.length = 38 →
    (configured s.dev = true →
      exec (.configure args) s =
        .next (s.withDev (answered 1 args { code := .refused, data := [1] } s.dev))) ∧
    (configured s.dev = false → ¬ blockInRange args →
      exec (.configure args) s = .next (s.withDev (answered 1 args (answer .badArg) s.dev))) ∧
    (configured s.dev = false → blockInRange args → ∃ (c : Configuration) (d : Device),
      isBlock args c ∧ exec (.configure args) s = .next (s.withDev (answered 1 args (done []) d)) ∧
      d.config = some c ∧
      d.encoder = { s.dev.encoder with generator := BitVec.ofNat 32 (octetAt 0 args + 1) } ∧
      d.port = s.dev.port ∧ d.ring = s.dev.ring ∧ d.recorder = s.dev.recorder ∧ d.decoder = s.dev.decoder ∧
      d.search = s.dev.search ∧ d.conceal = s.dev.conceal ∧ d.counters = s.dev.counters ∧ d.gate = s.dev.gate ∧
      d.router = s.dev.router ∧ d.chase = s.dev.chase ∧ d.outputs = s.dev.outputs ∧
      (octetAt 3 args = 0 → d.link = s.dev.link ∧ d.events = s.dev.events) ∧
      (octetAt 3 args = 1 → d.link = { s.dev.link with attachment := .listen, listenWait := 0 } ∧
        d.events = (withEvent (.linkState .listen .configured) s.dev).events) ∧
      (octetAt 3 args = 2 → d.link.attachment = .attached ∧ d.link.frameCount = 0 ∧ d.link.receiver = .idle ∧
        d.link.quiet = 0 ∧ d.events = (withEvent (.linkState .attached .configured) s.dev).events))

/-! ### Motion, mode, program, routes -/

/-- MOTION sets the motion named and changes nothing else while the motion held is not PLAYING, or is the one named; a
value above 3 is BAD_ARG. PROGRAM_SET takes 0 to 99 or FFh for NONE; any other value is BAD_ARG. -/
def Obligations.MotionAndProgramAreSet : Prop :=
  ∀ (args : List Byte) (s : State), commandReady s.dev → args.length = 1 →
    (∀ m : Motion, octetAt 0 args = motionCode m → (m = s.dev.port.motion ∨ s.dev.port.motion ≠ .playing) →
      exec (.motion args) s = .next (s.withDev (answered 2 args (done []) { s.dev with port := { s.dev.port with motion := m } }))) ∧
    (3 < octetAt 0 args → exec (.motion args) s = .next (s.withDev (answered 2 args (answer .badArg) s.dev))) ∧
    (octetAt 0 args ≤ 99 → exec (.programSet args) s = .next (s.withDev (answered 4 args (done [])
      { s.dev with recorder := { s.dev.recorder with program := some (octetAt 0 args) } }))) ∧
    (octetAt 0 args = 255 → exec (.programSet args) s = .next (s.withDev (answered 4 args (done [])
      { s.dev with recorder := { s.dev.recorder with program := none } }))) ∧
    (99 < octetAt 0 args → octetAt 0 args < 255 →
      exec (.programSet args) s = .next (s.withDev (answered 4 args (answer .badArg) s.dev)))

/-- Motion leaving PLAYING: the mode becomes PLAY with its MODE_CHANGE, the ring is flushed, the contexts take their
start condition, and the touch record is empty. The INSERTING entry retires ABANDONED, or CANCELLED where it was
cancelled, with its result, and a fired PUNCH_OUT with the same status; each VERIFYING entry retires with its outcome,
UNVERIFIED (a FILL record is linked to no entry); an unfired PENDING entry stays PENDING with its target (R110). No
in-flight count is left. -/
def Obligations.LeavingPlayingFlushes : Prop :=
  ∀ (args : List Byte) (m : Motion) (s : State), commandReady s.dev → args.length = 1 → shaped s.dev →
    s.dev.port.motion = .playing → m ≠ .playing → octetAt 0 args = motionCode m →
    ∃ d : Device, exec (.motion args) s = .next (s.withDev (answered 2 args (done []) d)) ∧
      d.port = { s.dev.port with motion := m, mode := .play, octets := d.port.octets } ∧
      (s.dev.port.mode ≠ .play → isLatched (.modeChange .play .motion) d) ∧
      d.ring.slots = List.replicate 16 none ∧ d.ring.play.state = .stopped ∧ d.ring.play.ended = false ∧
      d.ring.conf.running = false ∧ (∀ c, contextOf c d = Context.start) ∧
      d.decoder.playCarry = (if s.dev.ring.play.state = .stopped then s.dev.decoder.playCarry else none) ∧
      d.decoder.confCarry = none ∧ d.decoder.queue = s.dev.decoder.queue ∧
      d.encoder = { s.dev.encoder with horizon := none, last := none } ∧
      d.gate = { s.dev.gate with recordedRun := none } ∧
      (s.dev.port.mode = .record → d.recorder.state = .idle ∧ d.recorder.origin = none ∧ d.recorder.fill = none) ∧
      d.recorder.program = s.dev.recorder.program ∧ d.edit.insertion = none ∧ d.edit.gain = 0 ∧ d.edit.phase = none ∧
      d.edit.fade = none ∧ d.edit.touch = Touch.empty ∧ d.edit.state = derivedState d ∧
      (d.edit.state = .idle → s.dev.edit.state ≠ .idle → isLatched .editDrained d) ∧
      (∀ p e, entryAt p d = some e → e.state ≠ .verifying ∧ (s.dev.edit.insertion = some p → e.state = .retired) ∧
        ∀ r ∈ e.result, r.inFlight = 0) ∧
      (∀ p e, entryAt p s.dev = some e →
        let kept := e.result.map (fun r => { r with inFlight := 0 })
        let status := if e.outcome = some .cancelled then EditStatus.cancelled else .abandoned
        (s.dev.edit.insertion = some p → isRetired p status d ∧ (∀ e', entryAt p d = some e' → e'.result = kept) ∧
          ∀ o x, o ≠ p → entryAt o s.dev = some x → x.state = .pending → x.fired = true →
            (∀ q y, entryAt q s.dev = some y → y.state = .pending → y.fired = true → q = o) → isRetired o status d) ∧
        (s.dev.edit.insertion ≠ some p → e.state = .verifying → isRetired p (statusOf (e.outcome.getD .done)) d ∧
          ((∀ r ∈ records s.dev, r.state = .fill → r.editLink ≠ some p) →
            ∀ e', entryAt p d = some e' → e'.result = kept.map (fun r => { r with unverified := true }))) ∧
        (s.dev.edit.insertion ≠ some p → e.state = .pending → e.fired = false →
          entryAt p d = some { e with result := kept })) ∧
      d.config = s.dev.config ∧ d.search = s.dev.search ∧ d.counters = s.dev.counters ∧
      d.router = s.dev.router ∧ d.table = s.dev.table ∧ d.chase = s.dev.chase ∧ d.outputs = s.dev.outputs

/-- MODE_SET by the table of R187 and, for RECORD, as R24 gives. -/
def Obligations.ModeSetFollowsTables : Prop :=
  ∀ (args : List Byte) (s : State), commandReady s.dev → args.length = 1 → ringPlaced s.dev →
    (2 < octetAt 0 args → exec (.modeSet args) s = .next (s.withDev (answered 3 args (answer .badArg) s.dev))) ∧
    ((octetAt 0 args = 1 ∨ octetAt 0 args = 2) → s.dev.port.motion ≠ .playing →
      exec (.modeSet args) s = .next (s.withDev (answered 3 args { code := .refused, data := [2] } s.dev))) ∧
    ((octetAt 0 args = 1 ∨ octetAt 0 args = 2) → s.dev.port.motion = .playing → s.dev.port.mode ≠ .play →
      exec (.modeSet args) s = .next (s.withDev (answered 3 args { code := .refused, data := [3] } s.dev))) ∧
    (octetAt 0 args = 2 → s.dev.port.motion = .playing → s.dev.port.mode = .play →
      exec (.modeSet args) s = .next (s.withDev (answered 3 args (done []) { s.dev with port := { s.dev.port with mode := .insert } }))) ∧
    (octetAt 0 args = 1 → s.dev.port.motion = .playing → s.dev.port.mode = .play →
      ∃ d : Device, exec (.modeSet args) s = .next (s.withDev (answered 3 args (done []) d)) ∧
        d.port.mode = .record ∧ d.port.motion = .playing ∧ d.ring.play.state = .stopped ∧
        d.recorder = { state := .awaitOrigin, origin := none, fill := none, markOwed := true
                       program := s.dev.recorder.program, fillOrigin := none } ∧
        freedOnly [.gather, .decoded, .playout] s.dev d ∧ d.ring.conf = s.dev.ring.conf ∧
        d.encoder = s.dev.encoder) ∧
    (octetAt 0 args = 0 → s.dev.port.mode = .play →
      exec (.modeSet args) s = .next (s.withDev (answered 3 args (done []) s.dev))) ∧
    (octetAt 0 args = 0 → s.dev.port.mode = .insert → s.dev.edit.state = .inserting →
      exec (.modeSet args) s = .next (s.withDev (answered 3 args (answer .busy) s.dev))) ∧
    (octetAt 0 args = 0 → s.dev.port.mode = .insert → s.dev.edit.state ≠ .inserting →
      exec (.modeSet args) s = .next (s.withDev (answered 3 args (done []) { s.dev with port := { s.dev.port with mode := .play } }))) ∧
    (octetAt 0 args = 0 → s.dev.port.mode = .record →
      ∃ d : Device, exec (.modeSet args) s = .next (s.withDev (answered 3 args (done []) d)) ∧
        d.port.mode = .play ∧ d.recorder.state = .idle ∧ d.recorder.origin = none ∧ d.recorder.fill = none ∧
        d.recorder.markOwed = false ∧ d.recorder.program = s.dev.recorder.program ∧ freedOnly [.fill] s.dev d ∧
        d.ring.play = s.dev.ring.play ∧ d.ring.conf = s.dev.ring.conf ∧ d.encoder = s.dev.encoder)

/-- ROUTE_SET replaces one entry, and refuses TAPE and CONFIDENCE into RECORD_FEED; ROUTE_READ returns one entry and
changes nothing. -/
def Obligations.RouteCommandsSetAndRead : Prop :=
  ∀ (args : List Byte) (s : State), commandReady s.dev → s.dev.router.routes.length = 8 →
    (args.length = 4 → ∀ x y e, sourceCode x = octetAt 1 args → destinationCode y = octetAt 2 args →
      (∀ k, x = .linkRx k → k ≤ 11) → (∀ k, y = .linkTx k → k ≤ 11) →
      (if e then 1 else 0) = octetAt 3 args → octetAt 0 args ≤ 7 →
      ((x = .tape ∨ x = .confidence) ∧ y = .recordFeed →
        exec (.routeSet args) s = .next (s.withDev (answered 5 args (answer .badArg) s.dev))) ∧
      (¬ ((x = .tape ∨ x = .confidence) ∧ y = .recordFeed) →
        exec (.routeSet args) s = .next (s.withDev (answered 5 args (done []) { s.dev with router :=
          { s.dev.router with
            routes := s.dev.router.routes.set (octetAt 0 args) { source := x, destination := y, enabled := e } } })))) ∧
    (args.length = 4 → (7 < octetAt 0 args ∨ 15 < octetAt 1 args ∨ 14 < octetAt 2 args ∨ 1 < octetAt 3 args) →
      exec (.routeSet args) s = .next (s.withDev (answered 5 args (answer .badArg) s.dev))) ∧
    (args.length = 1 → ∀ r, s.dev.router.routes[octetAt 0 args]? = some r →
      exec (.routeRead args) s = .next (s.withDev (answered 6 args
        (done (octets 1 (sourceCode r.source) ++ octets 1 (destinationCode r.destination) ++ flagOctet r.enabled ++
          flagOctet (dormant r s.dev) ++
          flagOctet (feedingEntry r.destination s.dev == some (octetAt 0 args)))) s.dev))) ∧
    (args.length = 1 → 7 < octetAt 0 args →
      exec (.routeRead args) s = .next (s.withDev (answered 6 args (answer .badArg) s.dev)))

/-! ### Link slots, reads -/

/-- SLOT_CLAIM and SLOT_RELEASE: the checks in their order, and a message in the queue where all pass. -/
def Obligations.SlotCommandsQueueMessages : Prop :=
  ∀ (args : List Byte) (s : State), commandReady s.dev → args.length = 1 →
    let k := octetAt 0 args
    let e := slotEntry k s.dev
    (11 < k → exec (.slotClaim args) s = .next (s.withDev (answered 7 args (answer .badArg) s.dev)) ∧
      exec (.slotRelease args) s = .next (s.withDev (answered 8 args (answer .badArg) s.dev))) ∧
    (k ≤ 11 → s.dev.link.attachment ≠ .attached →
      exec (.slotClaim args) s = .next (s.withDev (answered 7 args { code := .refused, data := [4] } s.dev)) ∧
      exec (.slotRelease args) s = .next (s.withDev (answered 8 args { code := .refused, data := [4] } s.dev))) ∧
    (k ≤ 11 → s.dev.link.attachment = .attached →
      (e.owner ≠ none ∨ e.ownClaim = true →
        exec (.slotClaim args) s = .next (s.withDev (answered 7 args (answer .busy) s.dev))) ∧
      (e.owner = none → e.ownClaim = false → 8 ≤ s.dev.link.queue.length →
        exec (.slotClaim args) s = .next (s.withDev (answered 7 args (answer .queueFull) s.dev))) ∧
      (e.owner = none → e.ownClaim = false → s.dev.link.queue.length < 8 →
        exec (.slotClaim args) s = .next (s.withDev (answered 7 args (done []) { s.dev with
          table := s.dev.table.set k { e with ownClaim := true }
          link := { s.dev.link with queue := joinQueue (ownSlotMessage 2 k .localClaim) s.dev.link.queue } }))) ∧
      (e.owner ≠ some (cfg s.dev).station →
        exec (.slotRelease args) s = .next (s.withDev (answered 8 args { code := .refused, data := [5] } s.dev))) ∧
      (e.owner = some (cfg s.dev).station → e.ownRelease ≠ .none_ →
        exec (.slotRelease args) s = .next (s.withDev (answered 8 args (answer .busy) s.dev))) ∧
      (e.owner = some (cfg s.dev).station → e.ownRelease = .none_ → 8 ≤ s.dev.link.queue.length →
        exec (.slotRelease args) s = .next (s.withDev (answered 8 args (answer .queueFull) s.dev))) ∧
      (e.owner = some (cfg s.dev).station → e.ownRelease = .none_ → s.dev.link.queue.length < 8 →
        exec (.slotRelease args) s = .next (s.withDev (answered 8 args (done []) { s.dev with
          table := s.dev.table.set k { e with ownRelease := .queued }
          link := { s.dev.link with queue := joinQueue (ownSlotMessage 3 k .localRelease) s.dev.link.queue } }))))

/-- The four reads answer DONE with their data, laid out field by field in the order of the manual: `statusLayout` and
`slotsLayout` spell the fields of STATUS_READ and SLOTS_READ. SLOTS_READ changes nothing; STATUS_READ sets the
bad-message count to 0, COUNTERS_READ the five counters of its stream, and PEAKS_READ the four meters (R20, R43, R64,
R82, R83, R113, R129, R141, R152, R169, R171, R182, R192, R197). Where the data carry presence octets, the twelve
entries for driven slots and the receiver's codes are the model's choice (log 17), and so is the position of a segment
whose end is due (log 8). -/
def Obligations.ReadsReturnAndClear : Prop :=
  ∀ (args : List Byte) (s : State), commandReady s.dev →
    (args.length = 0 →
      exec (.slotsRead args) s = .next (s.withDev (answered 9 args (done (slotsLayout s.dev)) s.dev)) ∧
      exec (.statusRead args) s = .next (s.withDev (answered 24 args (done (statusLayout s.dev))
        { s.dev with link := { s.dev.link with bad := 0 } })) ∧
      exec (.peaksRead args) s = .next (s.withDev (answered 26 args
        (done (numberField 3 s.dev.router.mainLeft ++ numberField 3 s.dev.router.mainRight ++
          numberField 3 s.dev.router.monitorLeft ++ numberField 3 s.dev.router.monitorRight))
        { s.dev with router := { s.dev.router with mainLeft := 0, mainRight := 0, monitorLeft := 0, monitorRight := 0 } }))) ∧
    (args.length = 1 →
      (octetAt 0 args = 0 → exec (.countersRead args) s = .next (s.withDev (answered 25 args (done (countersLayout s.dev.counters.play))
          { s.dev with counters := { s.dev.counters with play := CounterSet.zero } }))) ∧
      (octetAt 0 args = 1 → exec (.countersRead args) s = .next (s.withDev (answered 25 args (done (countersLayout s.dev.counters.conf))
          { s.dev with counters := { s.dev.counters with conf := CounterSet.zero } }))) ∧
      (1 < octetAt 0 args →
        exec (.countersRead args) s = .next (s.withDev (answered 25 args (answer .badArg) s.dev))))

/-! ### Edit commands -/

/-- EDIT_POST: BAD_ARG (a post out of the ranges of `postInRange`), DUPLICATE and FULL change nothing; otherwise the
entry with the fields of `postFields` is placed at the head as PENDING with its trigger's target and the head moves
on. While the play playout is not RUNNING, or where another head of work waits in front, nothing else happens but the
re-derivation of the sequencer's state. While it is RUNNING and the entry becomes the head of work, a NEXT trigger
takes the segment after the next pair's, none past the last segment (log 15), and a target behind the next pair
retires the entry LATE. It is then the last in ring order, so it has no chained PUNCH_OUT (R87), and no other entry
changes. -/
def Obligations.EditPostTakesHeadPlace : Prop :=
  ∀ (args : List Byte) (s : State), commandReady s.dev → args.length = 9 → shaped s.dev →
    (¬ postInRange args → exec (.editPost args) s = .next (s.withDev (answered 10 args (answer .badArg) s.dev))) ∧
    (postInRange args →
      let post := postFields args
      (placeOf .localPort post.tag s.dev ≠ none →
        exec (.editPost args) s = .next (s.withDev (answered 10 args (answer .duplicate) s.dev))) ∧
      (placeOf .localPort post.tag s.dev = none → entryAt s.dev.edit.head s.dev ≠ none →
        exec (.editPost args) s = .next (s.withDev (answered 10 args (answer .full) s.dev))) ∧
      (placeOf .localPort post.tag s.dev = none → entryAt s.dev.edit.head s.dev = none →
        let place := s.dev.edit.head
        let posted := fun (target : Option Position) => ({
          state := .pending, poster := .localPort, post := post, target := target
          fired := false, outcome := none, status := none, result := none, report := .none_ } : Entry)
        let placed := fun (target : Option Position) => answered 10 args (done (octets 1 place)) { s.dev with
          edit := { s.dev.edit with
            places := s.dev.edit.places.set place (some (posted target))
            head := (place + 1) % 32
            state := if s.dev.edit.insertion.isSome then .inserting else .waiting } }
        let own := match post.trigger with
          | .atPosition n o => some { segment := n, offset := o }
          | _ => none
        (s.dev.ring.play.state ≠ .running →
          exec (.editPost args) s = .next (s.withDev (placed own))) ∧
        ∀ pair : Position, s.dev.ring.play.state = .running → s.dev.ring.play.position = pair → pair.offset < 480 →
          (∀ h, headOfWork s.dev = some h → headStands pair s.dev →
            (h + 32 - s.dev.edit.tail) % 32 < (place + 32 - s.dev.edit.tail) % 32 →
            exec (.editPost args) s = .next (s.withDev (placed own))) ∧
          (headOfWork s.dev = none →
            let target := match post.trigger with
              | .nextSegment o =>
                if pair.segment < lastSegment then some { segment := pair.segment + 1, offset := o } else none
              | _ => own
            ((∀ t, target = some t → sampleCount pair ≤ sampleCount t) →
              exec (.editPost args) s = .next (s.withDev (placed target))) ∧
            (∀ t, target = some t → sampleCount t < sampleCount pair →
              ∃ d : Device, exec (.editPost args) s =
                  .next (s.withDev (answered 10 args (done (octets 1 place)) d)) ∧
                entryAt place d = some { posted target with state := .retired, status := some .late } ∧
                isLatched (.editRetired place .localPort post.tag .late) d ∧
                (∀ p, p ≠ place → entryAt p d = entryAt p s.dev) ∧ d.edit.head = (place + 1) % 32 ∧
                d.edit.state = (if s.dev.edit.insertion.isSome then .inserting else .idle) ∧
                (s.dev.edit.insertion = none → isLatched .editDrained d) ∧ d.ring = s.dev.ring))))

/-- EDIT_CANCEL: NOT_FOUND and NOT_CANCELLABLE change nothing; a PENDING entry that has not fired retires CANCELLED; an
INSERTING entry outside its fade-out begins a fade-out of 32 samples with its own shape from the gain at the command. In
both cases the chained PUNCH_OUT of the entry retires SKIPPED (R87, R106). -/
def Obligations.EditCancelEndsEntry : Prop :=
  ∀ (args : List Byte) (poster : Poster) (s : State), commandReady s.dev → args.length = 2 → shaped s.dev →
    (8 < octetAt 0 args → exec (.editCancel args) s = .next (s.withDev (answered 11 args (answer .badArg) s.dev))) ∧
    (posterCode poster = octetAt 0 args → octetAt 0 args ≤ 8 → (∀ n, poster = .station n → n ≤ 7) →
      (placeOf poster (args.getD 1 0) s.dev = none →
        exec (.editCancel args) s = .next (s.withDev (answered 11 args (answer .notFound) s.dev))) ∧
      ∀ p e, placeOf poster (args.getD 1 0) s.dev = some p → entryAt p s.dev = some e →
        ((e.state = .verifying ∨ e.state = .retired ∨ (e.state = .pending ∧ e.fired = true) ∨
            (e.state = .inserting ∧ s.dev.edit.phase = some .fadeOut)) →
          exec (.editCancel args) s = .next (s.withDev (answered 11 args (answer .notCancellable) s.dev))) ∧
        (e.state = .pending → e.fired = false →
          ∃ (d : Device) (e' : Entry), exec (.editCancel args) s = .next (s.withDev (answered 11 args (done []) d)) ∧
            entryAt p d = some e' ∧ e'.state = .retired ∧ e'.status = some .cancelled ∧ e'.post = e.post ∧
            e'.result = e.result ∧ chainSkipped p s.dev d ∧ retirementRaised d ∧ d.edit.state = derivedState d ∧
            (d.edit.state = .idle → s.dev.edit.state ≠ .idle → isLatched .editDrained d) ∧
            d.ring = s.dev.ring ∧ d.edit.insertion = s.dev.edit.insertion) ∧
        (e.state = .inserting → s.dev.edit.phase ≠ some .fadeOut →
          ∃ d : Device, exec (.editCancel args) s = .next (s.withDev (answered 11 args (done []) d)) ∧
            d.edit.phase = some .fadeOut ∧ d.edit.insertion = s.dev.edit.insertion ∧
            d.edit.fade = some { length := 32, shape := e.post.shape, step := 0, start := s.dev.edit.gain } ∧
            (e.outcome = some .done → ∃ e', entryAt p d = some e' ∧ e'.outcome = some .cancelled) ∧
            chainSkipped p s.dev d ∧ d.ring = s.dev.ring))

/-- EDIT_REAP: NONE_READY where the tail is EMPTY or not RETIRED; otherwise the tail entry is returned and its place is
EMPTY. The tail moves on to the next place, and past every place from there whose entry is RETIRED with its report SENT,
which is emptied too (R90); no other entry changes but by R151. A queued report of the entry is withdrawn where its
message has not begun on the link, which frees a place of the queue, and detached where it has (R88). -/
def Obligations.EditReapEmptiesTail : Prop :=
  ∀ (args : List Byte) (s : State), commandReady s.dev → args.length = 0 → shaped s.dev →
    let tail := s.dev.edit.tail
    let behind := fun i => (tail + 1 + i) % 32
    let sent := fun p => ∃ e, entryAt p s.dev = some e ∧ e.state = .retired ∧ e.report = .sent
    ((∀ e, entryAt tail s.dev = some e → e.state ≠ .retired) →
      exec (.editReap args) s = .next (s.withDev (answered 12 args (answer .noneReady) s.dev))) ∧
    ∀ e, entryAt tail s.dev = some e → e.state = .retired →
      ∃ d : Device, exec (.editReap args) s = .next (s.withDev (answered 12 args (done
          (octets 1 tail ++ octets 1 (posterCode e.poster) ++ e.post.octets ++
            optionOctets 5 (e.target.map (fun t => octets 3 t.segment ++ octets 2 t.offset)) ++
            octets 1 ((e.status.map editStatusCode).getD 0) ++ resultOctets e.result)) d)) ∧
        entryAt tail d = none ∧ d.edit.head = s.dev.edit.head ∧ d.edit.state = s.dev.edit.state ∧
        d.ring = s.dev.ring ∧ d.events = s.dev.events ∧ d.gate = s.dev.gate ∧
        (∀ k, k ≤ 31 → (∀ i, i < k → sent (behind i)) → (k < 31 → ¬ sent (behind k)) →
          d.edit.tail = behind k ∧ (∀ i, i < k → entryAt (behind i) d = none) ∧
          (nothingWaits s.dev → ∀ i, k ≤ i → i < 31 → entryAt (behind i) d = entryAt (behind i) s.dev)) ∧
        ((∀ m ∈ s.dev.link.queue, m.origin ≠ .report tail) → d.link = s.dev.link ∧ d.table = s.dev.table ∧
          ∀ p, entryAt p d = none ∨ entryAt p d = entryAt p s.dev) ∧
        ∀ m before after, s.dev.link.queue = before ++ m :: after → m.origin = .report tail →
          (∀ x ∈ before ++ after, x.origin ≠ .report tail) →
          (m.sent = none → nothingWaits s.dev →
            d.link = { s.dev.link with queue := before ++ after } ∧ d.table = s.dev.table) ∧
          (m.sent ≠ none → d.table = s.dev.table ∧
            d.link = { s.dev.link with queue := before ++ { m with origin := .detachedReport } :: after })

/-! ### Tables, search, chase, events -/

/-- The table port: selection, rewind, read and write, by every case of the rule; DECK_RESET and LINK_RESTART keep the
selection, the counter and the flag. -/
def Obligations.TablePortFollowsItsRule : Prop :=
  ∀ (args : List Byte) (s : State), commandReady s.dev →
    let p := s.dev.port
    let last := match p.table with | .fade => 63 | .kernel => 15
    (args.length = 1 →
      (octetAt 0 args = 0 → exec (.tableSelect args) s = .next (s.withDev (answered 13 args (done [])
        { s.dev with port := { p with table := .fade, address := 0, endWritten := false } }))) ∧
      (octetAt 0 args = 1 → exec (.tableSelect args) s = .next (s.withDev (answered 13 args (done [])
        { s.dev with port := { p with table := .kernel, address := 0, endWritten := false } }))) ∧
      (1 < octetAt 0 args →
        exec (.tableSelect args) s = .next (s.withDev (answered 13 args (answer .badArg) s.dev)))) ∧
    (args.length = 0 →
      exec (.tableRewind args) s = .next (s.withDev (answered 16 args (done [])
        { s.dev with port := { p with address := 0, endWritten := false } })) ∧
      (∀ v : Int, (match p.table with
          | .fade => (s.dev.edit.fadeTable[p.address]?).map (fun x : Nat => (x : Int))
          | .kernel => s.dev.conceal.kernel[p.address]?) = some v →
        exec (.tableRead args) s = .next (s.withDev (answered 15 args (done (signedOctets 2 v))
          { s.dev with port := { p with address := min last (p.address + 1) } }))) ∧
      (∃ d, exec (.deckReset args) s = .next (s.withDev d) ∧ d.port.table = p.table ∧
        d.port.address = p.address ∧ d.port.endWritten = p.endWritten) ∧
      (∃ d, exec (.linkRestart args) s = .next (s.withDev d) ∧ d.port.table = p.table ∧
        d.port.address = p.address ∧ d.port.endWritten = p.endWritten)) ∧
    (args.length = 2 →
      let v := ofSignedOctets args
      let outOfRange := match p.table with | .fade => v < 0 ∨ 256 < v | .kernel => v < -128 ∨ 127 < v
      let inUse := match p.table with
        | .fade => s.dev.edit.state = .inserting
        | .kernel => s.dev.ring.play.state = .running ∨ s.dev.ring.conf.running = true
      (p.endWritten = true →
        exec (.tableWrite args) s = .next (s.withDev (answered 14 args { code := .refused, data := [7] } s.dev))) ∧
      (p.endWritten = false → outOfRange →
        exec (.tableWrite args) s = .next (s.withDev (answered 14 args (answer .badArg) s.dev))) ∧
      (p.endWritten = false → ¬ outOfRange → inUse →
        exec (.tableWrite args) s = .next (s.withDev (answered 14 args (answer .busy) s.dev))) ∧
      (p.endWritten = false → ¬ outOfRange → ¬ inUse →
        exec (.tableWrite args) s = .next (s.withDev (answered 14 args (done []) (match p.table with
          | .fade => { s.dev with
              edit := { s.dev.edit with fadeTable := s.dev.edit.fadeTable.set p.address v.toNat }
              port := { p with address := min last (p.address + 1), endWritten := decide (last ≤ p.address) } }
          | .kernel => { s.dev with
              conceal := { s.dev.conceal with kernel := s.dev.conceal.kernel.set p.address v }
              port := { p with address := min last (p.address + 1), endWritten := decide (last ≤ p.address) } })))))

/-- SEARCH_SET replaces the whole pattern with match count 0 and keeps the last hit; an argument outside its range is
BAD_ARG. DECK_RESET keeps every pattern with its last hit and sets every match count to 0. -/
def Obligations.SearchSetReplacesPattern : Prop :=
  ∀ (args : List Byte) (s : State), commandReady s.dev → args.length = 21 → s.dev.search.patterns.length = 4 →
    let o := fun i => octetAt i args
    let good := o 0 ≤ 3 ∧ o 1 ≤ 1 ∧ o 4 ≤ 1 ∧ o 5 ≤ 1 ∧ o 6 ≤ 7 ∧ o 7 ≤ 7 ∧ o 16 ≤ 1 ∧ 1 ≤ o 20 ∧ o 20 ≤ 8
    let pattern := fun (old : Pattern) => ({
      enabled := o 1 == 1, programValue := args.getD 2 0, programMask := args.getD 3 0
      indexValue := o 4 == 1, indexCompared := o 5 == 1, stationValue := args.getD 6 0
      stationMask := args.getD 7 0, labelValues := (args.drop 8).take 4, labelMasks := (args.drop 12).take 4
      segmentEnabled := o 16 == 1, segmentValue := (o 17 * 256 + o 18) * 256 + o 19, count := o 20
      matches_ := 0, lastHit := old.lastHit } : Pattern)
    (¬ good → exec (.searchSet args) s = .next (s.withDev (answered 17 args (answer .badArg) s.dev))) ∧
    (good → ∀ old, s.dev.search.patterns[o 0]? = some old →
      exec (.searchSet args) s = .next (s.withDev (answered 17 args (done []) { s.dev with search :=
        { s.dev.search with patterns := s.dev.search.patterns.set (o 0) (pattern old) } }))) ∧
    ∃ d : Device, exec (.deckReset []) s = .next (s.withDev d) ∧
      d.search.patterns = s.dev.search.patterns.map (fun p => { p with matches_ := 0 })

/-- A subcode record matches a pattern when every criterion holds for it. -/
def Obligations.PatternMatchesByCriteria : Prop :=
  ∀ (p : Pattern) (x : Subcode),
    let agree := fun (a b mask : Byte) => ∀ k, mask.getLsbD k = true → a.getLsbD k = b.getLsbD k
    (patternMatches p x = true ↔
      (agree p.programValue (BitVec.ofNat 8 (x.program.getD 255)) p.programMask ∧
       (p.indexCompared = true → x.indexMark = p.indexValue) ∧
       agree p.stationValue (BitVec.ofNat 8 x.station) p.stationMask ∧
       (∀ i, i < 4 → agree (p.labelValues.getD i 0) (x.label.getD i 0) (p.labelMasks.getD i 0)) ∧
       (p.segmentEnabled = true → p.segmentValue ≤ x.segment))) ∧
    (p.programMask = 0 → p.stationMask = 0 → (∀ i, i < 4 → p.labelMasks.getD i 0 = 0) →
      p.indexCompared = false → p.segmentEnabled = false → patternMatches p x = true)

/-- CHASE_SET sets the record to WAITING on its slot and offset; CHASE_OFF sets it to its reset values; CHASE_TRIM adds
to the pending trim within 16 bits. A leaving of LOCKED changes no more than the LOCK_LOST flag of the inserting
entry. -/
def Obligations.ChaseCommandsSetTheRecord : Prop :=
  ∀ (args : List Byte) (s : State), commandReady s.dev →
    let edited := if s.dev.chase.state = .locked then (match s.dev.edit.insertion with
      | some p => { s.dev.edit with places := s.dev.edit.places.modify p (fun o => o.map (fun e =>
          { e with result := e.result.map (fun r => { r with lockLost := true }) })) }
      | none => s.dev.edit) else s.dev.edit
    (args.length = 6 →
      (11 < octetAt 0 args ∨ (slotEntry (octetAt 0 args) s.dev).owner = some (cfg s.dev).station →
        exec (.chaseSet args) s = .next (s.withDev (answered 18 args (answer .badArg) s.dev))) ∧
      (octetAt 0 args ≤ 11 → (slotEntry (octetAt 0 args) s.dev).owner ≠ some (cfg s.dev).station →
        exec (.chaseSet args) s = .next (s.withDev (answered 18 args (done []) { s.dev with
          edit := edited
          events := if s.dev.chase.state = .waiting then s.dev.events
            else (withEvent (.chaseChange .waiting .set none) s.dev).events
          chase := { state := .waiting, leadSlot := some (octetAt 0 args), leadOwner := none
                     offset := some (ofSignedOctets ((args.drop 1).take 3) * 480 +
                       ofSignedOctets ((args.drop 4).take 2))
                     trim := 0, ownLatch := s.dev.chase.ownLatch, leadWord := none, error := none
                     correction := 0, wind := .none_, lockRun := 0, wordGap := 0, holdoverCount := 0 } })))) ∧
    (args.length = 0 →
      (s.dev.chase.state = .off →
        exec (.chaseOff args) s = .next (s.withDev (answered 19 args (done []) s.dev))) ∧
      (s.dev.chase.state ≠ .off →
        exec (.chaseOff args) s = .next (s.withDev (answered 19 args (done [])
          { withEvent (.chaseChange .off .offCommand none) s.dev with chase := Chase.initial, edit := edited })))) ∧
    (args.length = 2 →
      let trim := s.dev.chase.trim + ofSignedOctets args
      (s.dev.chase.state = .off →
        exec (.chaseTrim args) s = .next (s.withDev (answered 20 args { code := .refused, data := [6] } s.dev))) ∧
      (s.dev.chase.state ≠ .off → (trim < -32768 ∨ 32767 < trim) →
        exec (.chaseTrim args) s = .next (s.withDev (answered 20 args (answer .badArg) s.dev))) ∧
      (s.dev.chase.state ≠ .off → -32768 ≤ trim → trim ≤ 32767 →
        exec (.chaseTrim args) s = .next (s.withDev (answered 20 args (done [])
          { s.dev with chase := { s.dev.chase with trim := trim } }))))

/-- EVENT_ENABLE replaces the enabled set; EVENT_EXCHANGE returns the pending set and clears the acknowledged kinds;
EVENT_DETAIL returns one kind's detail and changes nothing. An event raised before an exchange is in the returned set
and is cleared if acknowledged; one raised after stays pending (R190). The presence octets inside a detail are the
model's choice (log 17). -/
def Obligations.EventCommandsExchangeSets : Prop :=
  ∀ (args : List Byte) (s : State), commandReady s.dev →
    let carried := fun k => hasKind k (BitVec.ofNat 18 (ofOctets args))
    (args.length = 3 →
      (∃ enabled : BitVec 18,
        exec (.eventEnable args) s = .next (s.withDev (answered 21 args (done [])
          { s.dev with events := { s.dev.events with enabled := enabled } })) ∧
        (∀ k, k < 18 → (hasKind k enabled ↔ carried k)) ∧
        ((∃ k, k < 18 ∧ hasKind k s.dev.events.pending ∧ carried k) →
          attn { s.dev with events := { s.dev.events with enabled := enabled } } = true)) ∧
      (∃ left : BitVec 18,
        exec (.eventExchange args) s = .next (s.withDev (answered 22 args (done (octets 3 s.dev.events.pending.toNat))
            { s.dev with events := { s.dev.events with pending := left } })) ∧
        ∀ k, k < 18 → (hasKind k left ↔ (hasKind k s.dev.events.pending ∧ ¬ carried k))) ∧
      (∀ e : EventDetail, hasKind (eventKind e) (raise e s.dev).events.pending ∧
        ∃ d : Device, exec (.eventExchange args) (s.withDev (raise e s.dev)) = .next (s.withDev d) ∧
          (carried (eventKind e) → ¬ hasKind (eventKind e) d.events.pending) ∧
          hasKind (eventKind e) (raise e d).events.pending)) ∧
    (args.length = 1 →
      (octetAt 0 args ≤ 17 → exec (.eventDetail args) s = .next (s.withDev (answered 23 args
        (done (match s.dev.events.details.getD (octetAt 0 args) none with
          | some e => 1 :: detailOctets e
          | none => 0 :: List.replicate (detailLength (octetAt 0 args)) 0)) s.dev))) ∧
      (17 < octetAt 0 args →
        exec (.eventDetail args) s = .next (s.withDev (answered 23 args (answer .badArg) s.dev))))

/-- ATTN is asserted while some kind is both pending and enabled, and at no other time; it is released from power-on,
while RESET is asserted, and after its release until an enabled event is raised. A raised kind that is not enabled is
pending without it; an enable that includes a pending kind asserts it at once. -/
def Obligations.AttnFollowsBothSets : Prop :=
  (∀ d : Device, d.resetHeld = false →
    (attn d = true ↔ ∃ k, k < 18 ∧ hasKind k d.events.pending ∧ hasKind k d.events.enabled)) ∧
  (∀ d : Device, d.resetHeld = true → attn d = false) ∧
  (∀ s t : State, (exec .powerOn s = .next t ∨ exec .resetAssert s = .next t ∨ exec .resetRelease s = .next t) →
    attn t.dev = false) ∧
  (∀ (e : EventDetail) (d : Device), d.resetHeld = false → attn d = false →
    (attn (raise e d) = true ↔ hasKind (eventKind e) d.events.enabled) ∧
      hasKind (eventKind e) (raise e d).events.pending) ∧
  (∀ (args : List Byte) (s : State), commandReady s.dev → args.length = 3 →
    let carried := fun k => hasKind k (BitVec.ofNat 18 (ofOctets args))
    (∃ d : Device, exec (.eventEnable args) s = .next (s.withDev d) ∧
      (attn d = true ↔ ∃ k, k < 18 ∧ hasKind k s.dev.events.pending ∧ carried k)) ∧
    ∃ d : Device, exec (.eventExchange args) s = .next (s.withDev d) ∧
      (attn d = true ↔ ∃ k, k < 18 ∧ hasKind k s.dev.events.pending ∧ hasKind k s.dev.events.enabled ∧ ¬ carried k)) ∧
  ∀ d d' : Device, d'.resetHeld = d.resetHeld → d'.events.pending = d.events.pending →
    d'.events.enabled = d.events.enabled → attn d' = attn d

/-! ### The resets of the port -/

/-- DECK_RESET: the ring flushed, the decoder and the encoder idle, the contexts at their start, every entry that is not
RETIRED retired CANCELLED, the counters 0 and the mode PLAY; what concerns the studio is kept. -/
def Obligations.DeckResetClearsTapeWork : Prop :=
  ∀ (args : List Byte) (s : State), commandReady s.dev → args.length = 0 → shaped s.dev →
    ∃ d : Device, exec (.deckReset args) s = .next (s.withDev (answered 27 args (done []) d)) ∧
      d.ring.slots = List.replicate 16 none ∧ d.ring.play.state = .stopped ∧ d.ring.conf.running = false ∧
      d.encoder = { inFlight := none, last := none, errorLeft := 0, errorRight := 0
                    generator := s.dev.encoder.generator, horizon := none } ∧
      d.decoder = { queue := [], inFlight := false, advance := none, confidence := none, playCarry := none
                    confCarry := none } ∧
      (∀ p ∈ d.search.patterns, p.matches_ = 0) ∧ (∀ c, contextOf c d = Context.start) ∧
      (∀ p e, entryAt p s.dev = some e → ∃ e', entryAt p d = some e' ∧ e'.state = .retired ∧
        e'.status = (if e.state = .retired then e.status else some .cancelled) ∧ e'.post = e.post) ∧
      d.edit.state = .idle ∧ d.edit.insertion = none ∧ d.edit.gain = 0 ∧ d.recorder.state = .idle ∧
      d.recorder.origin = none ∧ d.recorder.fill = none ∧ d.recorder.program = s.dev.recorder.program ∧
      d.counters = Counters.initial ∧ d.port.mode = .play ∧
      (s.dev.port.mode ≠ .play → isLatched (.modeChange .play .deckReset) d) ∧
      (s.dev.edit.state ≠ .idle → isLatched .editDrained d) ∧
      d.config = s.dev.config ∧ d.port.motion = s.dev.port.motion ∧ d.conceal.kernel = s.dev.conceal.kernel ∧
      d.edit.fadeTable = s.dev.edit.fadeTable ∧ d.router = s.dev.router ∧ d.table = s.dev.table ∧
      d.gate.lastDecision = s.dev.gate.lastDecision ∧ d.chase = s.dev.chase ∧
      d.events.enabled = s.dev.events.enabled ∧ d.link.attachment = s.dev.link.attachment

/-- LINK_RESTART is answered DONE in every link mode. OFF: nothing else changes. NORMAL: LISTEN with an empty queue, the
Slot Table cleared where the station was ATTACHED, a running chase in HOLDOVER. LOOP: the table cleared, and ATTACHED at
frame count 0. A clearing raises SLOT_LOST and CLAIM_RESULT with cause DETACHED (R154). The ring, the mode and the
counters are not touched. -/
def Obligations.LinkRestartRejoins : Prop :=
  ∀ (args : List Byte) (s : State), commandReady s.dev → args.length = 0 → shaped s.dev →
    ((cfg s.dev).linkMode = .off →
      exec (.linkRestart args) s = .next (s.withDev (answered 28 args (done []) s.dev))) ∧
    ∃ d : Device, exec (.linkRestart args) s = .next (s.withDev (answered 28 args (done []) d)) ∧
      d.ring = s.dev.ring ∧ d.port.mode = s.dev.port.mode ∧ d.counters = s.dev.counters ∧
      d.config = s.dev.config ∧ d.search = s.dev.search ∧ d.decoder = s.dev.decoder ∧ d.encoder = s.dev.encoder ∧
      ((cfg s.dev).linkMode = .normal → d.link.attachment = .listen ∧ d.link.listenWait = 0 ∧ d.link.queue = [] ∧
        isLatched (.linkState .listen .restart) d) ∧
      ((cfg s.dev).linkMode = .loop → d.link.attachment = .attached ∧ d.link.frameCount = 0 ∧
        d.link.receiver = .idle ∧ d.link.quiet = 0 ∧ isLatched (.linkState .attached .restart) d) ∧
      ((cfg s.dev).linkMode = .loop ∨ ((cfg s.dev).linkMode = .normal ∧ s.dev.link.attachment = .attached) →
        tableCleared s.dev d) ∧
      ((cfg s.dev).linkMode ≠ .off → chaseRunning s.dev.chase = true → d.chase.state = .holdover ∧
        d.chase.correction = 0 ∧ d.chase.wind = .none_)

/-! ### Periods, stripes and windows -/

/-- Before the configuration block is accepted, and while RESET is asserted, a period carries silence and drives
nothing, a stripe is ignored whole, and every window is answered NO_WRITE with no other effect. -/
def Obligations.UnconfiguredDeviceIsSilent : Prop :=
  ∀ s : State, (s.dev.resetHeld = true ∨ configured s.dev = false) →
    (∀ w, exec (.wordReferencePeriod w) s = .next (s.withDev ({ s.dev with outputs := { s.dev.outputs with
      main := silentPair, monitor := silentPair, driven := recessiveFrame } }))) ∧
    (∀ h blocks, exec (.advanceStripeArrival h blocks) s = .next s ∧
      exec (.confidenceStripeArrival h blocks) s = .next s) ∧
    (∀ n, exec (.writeWindowHeadA n) s =
        .next (s.withDev ({ s.dev with outputs := { s.dev.outputs with window := some .noWrite } })) ∧
      exec (.writeWindowHeadB n) s =
        .next (s.withDev ({ s.dev with outputs := { s.dev.outputs with window := some .noWrite } })))

/-- A period of a device off the link with the play playout STOPPED and nothing to start. The Router gives MAIN_OUT
and MONITOR_OUT the pairs of their sources, the meters take their magnitudes, the feed is noted, every link bit is
driven recessive, and the chase counts its period. With the confidence playout STOPPED too and the recorder not
FILLING, nothing else changes. A FILLING recorder at n:o also takes the feed's pair: with o = 0 a FREE slot becomes
the fill of n with the owed mark and the first source's origin, and a slot that is not FREE raises RING_OVERRUN; where
slot n is the fill of n the pair is stored at o and latched into its gate and the recorded run; the fill moves on in
either case. A RUNNING confidence playout delivers its pair: each sample as its context takes it, stored with its
mark, the counters raised. An offset that ends a segment in this period is left to the statements of the ends (log 3).
Where both channels mute at one pair the right one's detail is latched (the model's order, log 29), and the fade step
and the runs of a context outside the states that use them are the model's (log 23). -/
def Obligations.PeriodsCarryRoutedPairs : Prop :=
  ∀ (w : Period) (s : State), offLink s.dev → chaseStands s.dev → playStays s.dev → shaped s.dev →
    let u := silentTape w s.dev
    let feed := feedIn w s.dev
    let link := { s.dev.link with received := List.replicate 12 silentPair }
    let carried : Device := { s.dev with
      outputs := offLinkOutputs u s.dev, link := link, gate := feedNoted w s.dev, router := metered u s.dev
      chase := chaseCounted s.dev.chase }
    (sourceFor .mainOut s.dev = .lineIn → mainPair u s.dev = w.lineIn) ∧
    (confStays s.dev → s.dev.recorder.state ≠ .filling →
      exec (.wordReferencePeriod w) s = .next (s.withDev carried)) ∧
    (∀ n o, confStays s.dev → s.dev.recorder.state = .filling →
      s.dev.recorder.fill = some { segment := n, offset := o } → endsLater o w →
      let moved := { s.dev.recorder with fill := some { segment := n, offset := o + 1 } }
      let run := extendRun (if o = 0 then none else s.dev.gate.recordedRun) (sourceFor .recordFeed s.dev) feed.status
      (∀ r, 0 < o → heldIn .fill n s.dev = some r →
        exec (.wordReferencePeriod w) s = .next (s.withDev { carried with
          recorder := moved
          gate := { carried.gate with recordedRun := run }
          ring := { s.dev.ring with slots := s.dev.ring.slots.set (n % 16) (some { r with
            new := r.new.map (·.set o (some feed.pair)), gate := some (accumulate r.gate feed.status) }) } })) ∧
      (0 < o → heldIn .fill n s.dev = none →
        exec (.wordReferencePeriod w) s = .next (s.withDev { carried with recorder := moved })) ∧
      (o = 0 → slotOf n s.dev = none →
        exec (.wordReferencePeriod w) s = .next (s.withDev { carried with
          recorder := { moved with markOwed := false, fillOrigin := some (match sourceFor .recordFeed s.dev with
            | .lineIn => .line
            | .linkRx _ => .link
            | _ => .silence) }
          gate := { carried.gate with recordedRun := run }
          ring := { s.dev.ring with slots := s.dev.ring.slots.set (n % 16) (some { freshSegment n .fill with
            new := some ((List.replicate 480 none).set 0 (some feed.pair)), gate := some feed.status
            indexRequest := s.dev.recorder.markOwed }) } })) ∧
      (o = 0 → slotOf n s.dev ≠ none → heldIn .fill n s.dev = none →
        exec (.wordReferencePeriod w) s = .next (s.withDev { carried with
          recorder := { moved with fillOrigin := some (match sourceFor .recordFeed s.dev with
            | .lineIn => .line
            | .linkRx _ => .link
            | _ => .silence) }
          gate := { carried.gate with recordedRun := none }
          events := (withEvent (.ringOverrun .fill n none .noFillSlot) s.dev).events }))) ∧
    ∀ n o x, s.dev.recorder.state ≠ .filling → s.dev.ring.conf = { running := true, position := { segment := n, offset := o } } →
      endsLater o w → heldIn .confOut n s.dev = some x → 1 ≤ (cfg s.dev).recoveryCount →
      let pos : Position := { segment := n, offset := o }
      let l := sampleTaken ⟨.confidence, .left⟩ pos (some x) s.dev
      let r := sampleTaken ⟨.confidence, .right⟩ pos (some x) s.dev
      let v : Supply := { u with confidence := { pair := pairTaken l r, status := subcodeStatus x.subcode } }
      ∃ d : Device, exec (.wordReferencePeriod w) s = .next (s.withDev d) ∧
        contextOf ⟨.confidence, .left⟩ d = l.context ∧ contextOf ⟨.confidence, .right⟩ d = r.context ∧
        (∀ ch, contextOf ⟨.play, ch⟩ d = contextOf ⟨.play, ch⟩ s.dev) ∧
        d.counters = { s.dev.counters with conf := countedPair l r s.dev.counters.conf } ∧
        mutesLatched .confidence n l r d ∧
        d.ring = { s.dev.ring with
          conf := { running := true, position := { segment := n, offset := o + 1 } }
          slots := s.dev.ring.slots.set (n % 16) (some { x with
            old := x.old.map (audioDelivered o (pairTaken l r) l r) }) } ∧
        d.outputs = offLinkOutputs v s.dev ∧ d.router = metered v s.dev ∧ d.gate = feedNoted w s.dev ∧
        d.link = link ∧ d.edit = s.dev.edit ∧ d.port = s.dev.port ∧ d.recorder = s.dev.recorder ∧
        d.decoder = s.dev.decoder ∧ d.encoder = s.dev.encoder ∧ d.search = s.dev.search ∧
        d.chase = chaseCounted s.dev.chase ∧ d.conceal.kernel = s.dev.conceal.kernel ∧ d.table = s.dev.table ∧
        d.config = s.dev.config

/-- The play playout RUNNING at n:o of a device off the link delivers that pair to TAPE in a period in which no entry
fires: each sample as its context takes it (concealed value, gain, mark, history), the counters raised and a mute
told, the pair stored back with its marks, the offset moved on. Without an insertion the pair goes out as concealed
and nothing of the segment but its old audio changes. With one it is mixed with the feed's pair at the insertion's
gain g; above gain 0 the segment keeps the gain and the new pair and latches the feed's status; a fade steps, a
fade-in that ends leaves FULL, a fade-out that ends leaves no insertion; the first pair of a fade-out gives the
segment its edit offset. An offset that ends the segment in this period is left to the statements of the end (log 3).
Where both channels mute at one pair the right one's detail is latched (the model's order, log 29), and the fade step
and the runs of a context outside the states that use them are the model's (log 23). -/
def Obligations.PlayPairIsConcealedAndMixed : Prop :=
  ∀ (w : Period) (n o : Nat) (s : State), offLink s.dev → chaseStands s.dev → confStays s.dev →
    s.dev.recorder.state ≠ .filling → shaped s.dev → s.dev.ring.play.state = .running →
    s.dev.ring.play.position = { segment := n, offset := o } →
    endsLater o w → headWaits { segment := n, offset := o } s.dev → 1 ≤ (cfg s.dev).recoveryCount →
    let pos : Position := { segment := n, offset := o }
    let current := heldIn .playout n s.dev
    let l := sampleTaken ⟨.play, .left⟩ pos current s.dev
    let r := sampleTaken ⟨.play, .right⟩ pos current s.dev
    let feed := feedIn w s.dev
    let g := insertGain s.dev.edit
    let delivered := fun (pair : Pair) (d : Device) =>
      let u : Supply := { silentTape w s.dev with tape := { pair := pair, status := .openCopy } }
      exec (.wordReferencePeriod w) s = .next (s.withDev d) ∧ playDelivered n o l r s.dev d ∧
      d.outputs = offLinkOutputs u s.dev ∧ d.router = metered u s.dev ∧
      d.link = { s.dev.link with received := List.replicate 12 silentPair } ∧ d.chase = chaseCounted s.dev.chase ∧
      d.table = s.dev.table
    (s.dev.edit.insertion = none → ∃ d : Device, delivered (pairTaken l r) d ∧
      d.edit = { s.dev.edit with gain := 0 } ∧ d.gate = feedNoted w s.dev ∧
      slotOf n d = (match current with
        | some x => some { x with old := x.old.map (audioDelivered o (pairTaken l r) l r) }
        | none => slotOf n s.dev)) ∧
    ∀ p e x, s.dev.edit.insertion = some p → entryAt p s.dev = some e → e.state = .inserting → current = some x →
      (s.dev.edit.phase = some .full ∨
        ((s.dev.edit.phase = some .fadeIn ∨ s.dev.edit.phase = some .fadeOut) ∧ s.dev.edit.fade ≠ none)) →
      let pair := mixedPair g (pairTaken l r) feed.pair
      let begins := s.dev.edit.phase == some .fadeOut && s.dev.edit.fade.map Fade.step == some 0
      ∃ d : Device, delivered pair d ∧ d.edit.gain = g ∧
        slotOf n d = some { x with
          old := x.old.map (audioDelivered o pair l r)
          gains := if g = 0 then x.gains else some ((x.gains.getD (List.replicate 480 0)).set o g)
          new := if g = 0 then x.new else some ((x.new.getD (List.replicate 480 none)).set o (some feed.pair))
          gate := if g = 0 then x.gate else some (accumulate x.gate feed.status)
          editOffset := if begins then x.editOffset.or (some o) else x.editOffset } ∧
        d.gate = { feedNoted w s.dev with
          recordedRun := if g = 0 then s.dev.gate.recordedRun
            else extendRun s.dev.gate.recordedRun (sourceFor .recordFeed s.dev) feed.status } ∧
        d.edit.touch = (if g = 0 then s.dev.edit.touch else { s.dev.edit.touch with insertion := some p }) ∧
        (s.dev.edit.phase = some .full →
          d.edit.phase = some .full ∧ d.edit.insertion = some p ∧ entryAt p d = some e) ∧
        (∀ f, s.dev.edit.phase = some .fadeIn → s.dev.edit.fade = some f →
          d.edit.insertion = some p ∧ entryAt p d = some e ∧
          (f.step + 1 < f.length → d.edit.phase = some .fadeIn ∧ d.edit.fade = some { f with step := f.step + 1 }) ∧
          (f.length ≤ f.step + 1 → d.edit.phase = some .full ∧ d.edit.fade = none)) ∧
        (∀ f, s.dev.edit.phase = some .fadeOut → s.dev.edit.fade = some f →
          (f.step + 1 < f.length → d.edit.phase = some .fadeOut ∧ d.edit.fade = some { f with step := f.step + 1 } ∧
            d.edit.insertion = some p) ∧
          (f.length ≤ f.step + 1 → d.edit.phase = none ∧ d.edit.fade = none ∧ d.edit.insertion = none) ∧
          ∃ e', entryAt p d = some e' ∧ (begins = true → ∀ y, e.result = some y → ∃ y', e'.result = some y' ∧
            y'.edgeConcealed = (y.edgeConcealed || !(l.mark == .passed && r.mark == .passed))))

/-- The head of work fires at the pair of its target, in a period of a device off the link in which no fade-out ends
before it and the entries behind it, its chained PUNCH_OUT apart, have no target up to the pair. The first check of
R95 that applies retires it with its status and no result, and its chained PUNCH_OUT SKIPPED (R87). A PUNCH_IN that
passes becomes INSERTING with outcome DONE and its first segment, and begins its insertion at gain 256 or at the first
step of its fade; a MARK becomes VERIFYING and joins the touch record; a PUNCH_OUT begins its fade-out from the gain
as it stands, or, as a butt, ends the insertion and retires DONE. A head of work whose target lies behind the pair
retires LATE, its chained PUNCH_OUT SKIPPED. -/
def Obligations.EntriesFireAtTheirPair : Prop :=
  ∀ (w : Period) (n o h : Nat) (e : Entry) (t : Position) (s : State), offLink s.dev → chaseStands s.dev →
    confStays s.dev → s.dev.recorder.state ≠ .filling → shaped s.dev → s.dev.ring.play.state = .running →
    s.dev.ring.play.position = { segment := n, offset := o } → endsLater o w → 1 ≤ (cfg s.dev).recoveryCount →
    headOfWork s.dev = some h → entryAt h s.dev = some e → e.target = some t →
    (∀ p x, entryAt p s.dev = some x → x.state = .pending → x.fired = false → p ≠ h →
      isChain h p s.dev ∨ waitsLater { segment := n, offset := o } x) →
    s.dev.edit.insertion ≠ some h →
    (∀ f, s.dev.edit.phase = some .fadeOut → s.dev.edit.fade = some f → f.step + 1 < f.length) →
    let pos : Position := { segment := n, offset := o }
    let current := heldIn .playout n s.dev
    let l := sampleTaken ⟨.play, .left⟩ pos current s.dev
    let r := sampleTaken ⟨.play, .right⟩ pos current s.dev
    let feed := (feedIn w s.dev).status
    let edit := s.dev.edit
    let refused : Option EditStatus :=
      if s.dev.port.mode ≠ .insert then some .refusedMode
      else if e.post.requiresLock = true ∧ s.dev.chase.state ≠ .locked then some .notLocked
      else if e.post.action ≠ .punchOut ∧ (current = none ∨ edit.touch.spoiled = true) then some .broken
      else if e.post.action = .punchIn ∧ edit.insertion ≠ none then some .refusedState
      else if e.post.action = .punchOut ∧ (edit.insertion = none ∨ edit.phase = some .fadeOut) then
        some (if isChainedOut h s.dev then .skipped else .refusedState)
      else if e.post.action = .punchIn ∧ (feed = .spent ∨ feed = .unknown) then some .refusedCopy
      else none
    let length := if e.post.fadeCode = 0 then 0 else if e.post.fadeCode = 5 then 480 else 16 * 2 ^ e.post.fadeCode
    let step1 := curveAt edit.fadeTable length e.post.shape 1
    let result := fun (first : Option Nat) (edge : Bool) => ({
      first := first, last := none, inFlight := 0, tally := 0, weak := false, unverified := false
      edgeConcealed := edge, lockLost := false } : EditResult)
    let retired := fun (st : EditStatus) => ∃ (d : Device) (e' : Entry),
      exec (.wordReferencePeriod w) s = .next (s.withDev d) ∧ entryAt h d = some e' ∧ e'.state = .retired ∧
      e'.status = some st ∧ e'.result = e.result ∧ chainSkipped h s.dev d ∧ retirementRaised d ∧
      ((∀ p, ¬ isChain h p s.dev) → isLatched (.editRetired h e.poster e.post.tag st) d) ∧
      d.ring.play.position = { segment := n, offset := o + 1 }
    (sampleCount t < sampleCount pos → retired .late) ∧
    (t = pos → ∀ st, refused = some st → retired st) ∧
    (isChainedOut h s.dev = true ↔ ∃ p, isChain p h s.dev) ∧
    (t = pos → refused = none → e.post.fadeCode ≤ 5 →
      (∀ p x, entryAt p s.dev = some x → x.state = .pending → x.fired = false → p ≠ h → waitsLater pos x) →
      (e.post.action = .punchIn → ∃ d : Device, exec (.wordReferencePeriod w) s = .next (s.withDev d) ∧
        entryAt h d = some { e with
          state := .inserting, outcome := some .done
          result := some (result (some n) (!(l.mark == .passed && r.mark == .passed))) } ∧
        d.edit.insertion = some h ∧ d.edit.state = .inserting ∧ d.edit.touch.insertion = some h ∧
        d.edit.gain = (if e.post.fadeCode = 0 then 256 else step1.toNat) ∧
        (e.post.fadeCode = 0 → d.edit.phase = some .full ∧ d.edit.fade = none) ∧
        (e.post.fadeCode ≠ 0 → d.edit.phase = some .fadeIn ∧
          d.edit.fade = some { length := length, shape := e.post.shape, step := 1, start := 0 }) ∧
        (∀ x, current = some x → ∃ y, slotOf n d = some y ∧ y.editOffset = x.editOffset.or (some o))) ∧
      (e.post.action = .mark → ∃ d : Device, exec (.wordReferencePeriod w) s = .next (s.withDev d) ∧
        entryAt h d = some { e with state := .verifying, outcome := some .done, result := some (result none false) } ∧
        d.edit.touch.marks = edit.touch.marks ++ [h] ∧ d.edit.insertion = edit.insertion ∧
        (∀ x, current = some x → ∃ y, slotOf n d = some y ∧ y.indexRequest = true)) ∧
      (e.post.action = .punchOut → ∀ p i, edit.insertion = some p → entryAt p s.dev = some i →
        i.state = .inserting → firedOut s.dev = none → ∃ d : Device, exec (.wordReferencePeriod w) s = .next (s.withDev d) ∧
        (∀ x, current = some x → ∃ y, slotOf n d = some y ∧ y.editOffset = x.editOffset.or (some o)) ∧
        (e.post.fadeCode ≠ 0 → entryAt h d = some { e with fired := true, outcome := some .done } ∧
          d.edit.insertion = some p ∧ d.edit.phase = some .fadeOut ∧
          d.edit.gain = (Int.fdiv (edit.gain * (256 - step1)) 256).toNat ∧
          d.edit.fade = some { length := length, shape := e.post.shape, step := 1, start := edit.gain }) ∧
        (e.post.fadeCode = 0 → d.edit.insertion = none ∧ d.edit.gain = 0 ∧ d.edit.phase = none ∧
          (∃ e', entryAt h d = some e' ∧ e'.state = .retired ∧ e'.status = some .done) ∧
          ∃ i', entryAt p d = some i' ∧ (i'.state = .verifying ∨ i'.state = .retired))))

/-- A frame of an ATTACHED station with nothing to send, below frame 63, with both playouts silent (`frameTaken`).
Each slot it drives carries its present bit, the bit of its status word and the pair routed to it, silence where a
code of the relay history is less restrictive than the source's status (R127); every other slot is recessive. Frame 0
carries the marker, and at it the history takes the source's status, the status word is latched anew, and the own
position is latched. The frame read, its own in LOOP, moves the frame count, the quiet count, the words being read,
the absence counts and the samples that LINK_RX supplies in the next period. At the end of frame 63 the words
complete, and a valid word of a slot's owner sets its copy status, position and motion. A dominant message bit takes
an IDLE receiver into RECEIVING, which collects the bits, and one in SKIP ends the run of recessive bits. A station
that sends drives bit i of its first message, starting at a frame whose quiet count has reached its threshold: an
equal bit goes on, and at the last one the message leaves the queue with yield 3 and echo run 0, a claim of a FREE
slot making it this station's and a release of its own making it FREE; a recessive bit read dominant is a loss, the
sixteenth drops the message; a dominant bit read recessive is an echo fault, the third in a row leaves ATTACHED, which
clears the Slot Table. A RUNNING play playout off any insertion delivers its pair in the same period, and a slot
routed to TAPE drives it with TAPE's status and the playout's position, as it stands after the pair where the delivery
comes first (log 3); the fade step and the runs of its contexts are the model's (log 23), and so is the mute detail's
order (log 29). That a word register is not cleared at frame 0 (log 18), and that LINK_RX of an entry that has become
FREE is silent (log 30), are the model's. -/
def Obligations.LinkFrameIsDrivenAndRead : Prop :=
  (∀ (w : Period) (s : State), deckRests s.dev → s.dev.link.attachment = .attached → s.dev.link.queue = [] →
    s.dev.link.receiver = .idle → s.dev.link.frameCount < 63 →
    let u := silentTape w s.dev
    let pos : Position := { segment := match s.dev.decoder.advance with | some e => e.segment | none => 0, offset := 0 }
    frameQuiet (frameHeard w u pos s.dev) s.dev →
    ∃ d : Device, exec (.wordReferencePeriod w) s = .next (s.withDev d) ∧ frameTaken w u pos s.dev d ∧
      d.ring = s.dev.ring ∧ d.edit = s.dev.edit ∧ d.events = s.dev.events ∧ d.port = s.dev.port ∧
      d.recorder = s.dev.recorder ∧ d.decoder = s.dev.decoder ∧ d.encoder = s.dev.encoder ∧
      d.search = s.dev.search ∧ d.conceal = s.dev.conceal ∧ d.counters = s.dev.counters ∧ d.config = s.dev.config) ∧
  (∀ (w : Period) (n o : Nat) (s : State), s.dev.resetHeld = false → configured s.dev = true → shaped s.dev →
    chaseStands s.dev → confStays s.dev → s.dev.recorder.state ≠ .filling → s.dev.ring.play.state = .running →
    s.dev.ring.play.position = { segment := n, offset := o } → endsLater o w →
    headWaits { segment := n, offset := o } s.dev → 1 ≤ (cfg s.dev).recoveryCount → s.dev.edit.insertion = none →
    s.dev.link.attachment = .attached → s.dev.link.queue = [] → s.dev.link.receiver = .idle →
    s.dev.link.frameCount < 63 →
    let current := heldIn .playout n s.dev
    let l := sampleTaken ⟨.play, .left⟩ { segment := n, offset := o } current s.dev
    let r := sampleTaken ⟨.play, .right⟩ { segment := n, offset := o } current s.dev
    let u : Supply := { silentTape w s.dev with tape := { pair := pairTaken l r, status := tapeCopy s.dev } }
    let pos := if w.order.frame = .deliveryFirst then normalPosition { segment := n, offset := o + 1 }
      else { segment := n, offset := o }
    frameQuiet (frameHeard w u pos s.dev) s.dev →
    ∃ d : Device, exec (.wordReferencePeriod w) s = .next (s.withDev d) ∧ frameTaken w u pos s.dev d ∧
      playDelivered n o l r s.dev d ∧ d.edit = { s.dev.edit with gain := 0 } ∧
      slotOf n d = (match current with
        | some x => some { x with old := x.old.map (audioDelivered o (pairTaken l r) l r) }
        | none => slotOf n s.dev)) ∧
  (∀ (w : Period) (k p : Nat) (s : State), deckRests s.dev → s.dev.link.attachment = .attached →
    s.dev.link.queue = [] → s.dev.link.receiver = .idle → s.dev.link.frameCount = 63 → (cfg s.dev).linkMode = .normal →
    w.frame.message = false → w.frame.marker = false → k ≤ 11 →
    let e := slotEntry k s.dev
    let bits := slotBits k w.frame
    let word := s.dev.link.words.getD k 0 <<< 1 ||| (if bits.status then 0 else 1)
    e.owner = some p → p ≠ (cfg s.dev).station → validWord word = true → (readWord word).owner = p →
    bits.present = true ∨ e.absence + 1 < 2400 →
    ∃ d : Device, exec (.wordReferencePeriod w) s = .next (s.withDev d) ∧ d.link.frameCount = 0 ∧
      slotEntry k d = { e with
        copy := some (readWord word).copy
        lastWord := some { position := (readWord word).position, motion := (readWord word).motion }
        invalidRun := 0, absence := if bits.present then 0 else e.absence + 1 }) ∧
  (∀ (w : Period) (s : State), deckRests s.dev → s.dev.link.attachment = .attached → s.dev.link.queue = [] →
    (cfg s.dev).linkMode = .normal → w.frame.marker = false →
    let link := s.dev.link
    (link.receiver = .idle → w.frame.message = true → ∃ d : Device,
      exec (.wordReferencePeriod w) s = .next (s.withDev d) ∧ d.link.receiver = .receiving ∧ d.link.quiet = 0 ∧
      d.link.bits = [true]) ∧
    (link.receiver = .receiving → link.bits.length + 1 < 22 → ∃ d : Device,
      exec (.wordReferencePeriod w) s = .next (s.withDev d) ∧ d.link.receiver = .receiving ∧
      d.link.bits = link.bits ++ [w.frame.message]) ∧
    (link.receiver = .skip → w.frame.message = true ∨ link.skipRun + 1 < 12 → ∃ d : Device,
      exec (.wordReferencePeriod w) s = .next (s.withDev d) ∧ d.link.receiver = .skip ∧
      d.link.skipRun = if w.frame.message then 0 else link.skipRun + 1)) ∧
  ∀ (w : Period) (m : Queued) (rest : List Queued) (i : Nat) (s : State), deckRests s.dev →
    s.dev.link.attachment = .attached → (cfg s.dev).linkMode = .normal → (cfg s.dev).station ≤ 7 →
    s.dev.link.frameCount < 63 → w.frame.marker = false →
    (∀ k, k ≤ 11 → (slotBits k w.frame).present = true ∨ (slotEntry k s.dev).absence + 1 < 2400) →
    s.dev.link.queue = m :: rest → (∀ x ∈ rest, x.sent = none) → nothingWaits s.dev → messageInRange m →
    (m.kind = 2 ∨ m.kind = 3 ∨ m.kind = 10) →
    let code := messageBits (cfg s.dev).station m
    let bit := code.getD i false
    i < code.length →
    ((i = 0 ∧ m.sent = none ∧ s.dev.link.receiver = .idle ∧
        (if m.kind < 8 then 8 else 12) + s.dev.link.yieldCount ≤ s.dev.link.quiet) ∨
      (0 < i ∧ m.sent = some i ∧ s.dev.link.receiver = .receiving ∧ s.dev.link.bits = code.take i)) →
    ∃ d : Device, exec (.wordReferencePeriod w) s = .next (s.withDev d) ∧ d.outputs.driven.message = bit ∧
      (w.frame.message = bit → i + 1 < code.length → d.link.queue = { m with sent := some (i + 1) } :: rest ∧
        d.link.receiver = .receiving ∧ d.link.bits = code.take (i + 1)) ∧
      (w.frame.message = bit → i + 1 = code.length → d.link.receiver = .idle ∧ d.link.quiet = 0 ∧
        d.link.yieldCount = 3 ∧ d.link.echoRun = 0 ∧ d.link.queue = rest ∧
        ∀ k, k ≤ 11 → m.body = [BitVec.ofNat 8 k] →
          (m.kind = 2 → (slotEntry k s.dev).owner = none → (slotEntry k d).owner = some (cfg s.dev).station ∧
            (slotEntry k d).drive = some .driving ∧ (slotEntry k d).ownClaim = false ∧
            isLatched (.slotChange k (some (cfg s.dev).station) .claimed) d ∧ isLatched (.claimResult k none) d) ∧
          (m.kind = 3 → (slotEntry k s.dev).owner = some (cfg s.dev).station →
            slotEntry k d = { SlotEntry.free with ownClaim := (slotEntry k s.dev).ownClaim } ∧
            (relayOf k d).history = [] ∧ isLatched (.slotChange k none .released) d)) ∧
      (w.frame.message = true → bit = false → m.origin ≠ .detachedReport →
        (m.losses < 15 → d.link.queue = { m with sent := none, losses := m.losses + 1 } :: rest) ∧
        (15 ≤ m.losses → d.link.queue = rest ∧ isLatched (.messageDropped m.kind m.destination) d)) ∧
      (w.frame.message = false → bit = true → m.origin ≠ .detachedReport → isLatched (.linkFault m.kind) d ∧
        (s.dev.link.echoRun < 2 → d.link.attachment = .attached ∧ d.link.echoRun = s.dev.link.echoRun + 1 ∧
          d.link.queue = { m with sent := none } :: rest) ∧
        (2 ≤ s.dev.link.echoRun → d.link.attachment = .listen ∧ tableCleared s.dev d ∧
          isLatched (.linkState .listen .echoFaults) d)) ∧
      (w.frame.message ≠ bit → m.origin = .detachedReport → bit = false ∨ s.dev.link.echoRun < 2 → d.link.queue = rest)

/-- An advance stripe. With no number it changes nothing. Numbered n, it moves the expectation to n and its head. Where
no pattern is enabled and no GATHER slot lies below n, the Search Unit keeps only its memory of the comparison, and the
ring does one thing: it ignores the stripe (motion not PLAYING, RECORD mode, behind the playout); a FREE slot becomes
GATHER with the head's flag and all samples LOST, or a GATHER slot of n sets a clear flag, and the stripe joins the
queue; a flag already set discards it; any other content raises RING_OVERRUN SLOT_HELD, and a full queue RING_OVERRUN
QUEUE_FULL. An enabled pattern compares a VALID subcode of a segment not yet compared: a match counts up to the hit,
which disables the pattern, raises SEARCH_HIT and gives the waiting SEARCH entries their target; a mismatch sets the
count to 0, and so does an awaited segment that has no VALID subcode. Every GATHER slot below n with nothing outstanding
becomes DECODED. -/
def Obligations.AdvanceStripesAreTakenOrRefused : Prop :=
  ∀ (h : Head) (blocks : List BlockRecord) (n : Nat) (s : State), s.dev.resetHeld = false → configured s.dev = true →
    shaped s.dev →
    let x := stripeSubcode blocks
    let d0 := s.dev
    let arrives := exec (.advanceStripeArrival h blocks) s
    let noneBelow := ∀ r ∈ records d0, r.state = .gather → n ≤ r.number
    let quietSearch := ∀ p ∈ d0.search.patterns, p.enabled = false
    let passed := d0.ring.play.state = .running ∧ (n < d0.ring.play.position.segment ∨
      (n = d0.ring.play.position.segment ∧ heldIn .playout n d0 = none))
    let ignored := d0.port.motion ≠ .playing ∨ d0.port.mode = .record ∨ passed
    let seen : Device := { d0 with
      decoder := { d0.decoder with advance := some { segment := n, head := h } }
      search := if d0.search.compared = some n then d0.search else (match x with
        | some _ => { d0.search with compared := some n, awaiting := none }
        | none => { d0.search with awaiting := some n }) }
    let queued := fun (late : Bool) (r : Segment) => ({ seen with
      decoder := { seen.decoder with
        queue := d0.decoder.queue ++ [{ stream := .advance, segment := n, head := h, subcode := x, blocks := blocks
                                        lateSeen := late }]
        inFlight := true }
      ring := { d0.ring with slots := d0.ring.slots.set (n % 16) (some r) } } : Device)
    let full := { seen with events := (withEvent (.ringOverrun .advance n (some h) .queueFull) d0).events }
    (isUnnumbered d0.decoder.advance h x → arrives = .next s) ∧
    (isNumbered d0.decoder.advance h x n →
      (quietSearch → noneBelow →
        (ignored → arrives = .next (s.withDev seen)) ∧
        (¬ ignored →
          (slotOf n d0 = none →
            (d0.decoder.queue.length < 4 → arrives = .next (s.withDev (queued false
              { freshSegment n .gather with
                advanceA := h == .a, advanceB := h == .b, old := some (List.replicate 480 lostPair) }))) ∧
            (4 ≤ d0.decoder.queue.length → arrives = .next (s.withDev full))) ∧
          (∀ r, heldIn .gather n d0 = some r →
            (takenFlag .advance h r = true → arrives = .next (s.withDev seen)) ∧
            (takenFlag .advance h r = false → d0.decoder.queue.length < 4 →
              arrives = .next (s.withDev (queued r.late
                { r with advanceA := r.advanceA || h == .a, advanceB := r.advanceB || h == .b }))) ∧
            (takenFlag .advance h r = false → 4 ≤ d0.decoder.queue.length → arrives = .next (s.withDev full))) ∧
          (slotOf n d0 ≠ none → heldIn .gather n d0 = none →
            arrives = .next (s.withDev { seen with
              events := (withEvent (.ringOverrun .advance n (some h) .slotHeld) d0).events })))) ∧
      (d0.ring.play.state ≠ .running → d0.search.compared ≠ some n → ∃ d : Device, arrives = .next (s.withDev d) ∧
        (∀ y, x = some y → d.search.compared = some n ∧ d.search.awaiting = none ∧
          ∀ i p, i < 4 → d0.search.patterns[i]? = some p →
            let found := if ∃ a, d0.search.awaiting = some a ∧ a ≠ n then 0 else p.matches_
            (p.enabled = false → d.search.patterns[i]? = some p) ∧
            (p.enabled = true → patternMatches p y = false →
              d.search.patterns[i]? = some { p with matches_ := 0 }) ∧
            (p.enabled = true → patternMatches p y = true → found + 1 < p.count →
              d.search.patterns[i]? = some { p with matches_ := found + 1 }) ∧
            (p.enabled = true → patternMatches p y = true → p.count ≤ found + 1 →
              d.search.patterns[i]? = some { p with matches_ := 0, enabled := false, lastHit := some n } ∧
              hasKind 13 d.events.pending ∧
              ∀ q e o, entryAt q d0 = some e → e.state = .pending → e.target = none →
                e.post.trigger = .search i o → entryAt q d = some { e with
                  target := if n < lastSegment then some { segment := n + 1, offset := o } else none })) ∧
        (x = none → d.search.awaiting = some n ∧ d.search.compared = d0.search.compared ∧
          d.search.patterns = d0.search.patterns.map (fun p =>
            if p.enabled = true ∧ ∃ a, d0.search.awaiting = some a ∧ a ≠ n then { p with matches_ := 0 } else p))) ∧
      (d0.search.compared = some n → ∀ d, arrives = .next (s.withDev d) → d.search = d0.search) ∧
      ∃ d : Device, arrives = .next (s.withDev d) ∧
        ∀ m r, m < n → heldIn .gather m d0 = some r →
          (nothingOutstanding .advance r d0 → held m d = some { r with state := .decoded }) ∧
          (¬ nothingOutstanding .advance r d0 → held m d = some r))

/-- A confidence stripe. With no number it changes nothing. Numbered n, it moves the expectation to n and its head.
Where no VERIFY slot lies below n, a WRITTEN slot of n becomes VERIFY, its old audio all LOST again and its head's flag
set, a VERIFY slot of n sets a clear flag, and the stripe joins the queue; a flag already set, or any other content of
the slot, discards it, and a full queue raises RING_OVERRUN QUEUE_FULL. Every VERIFY slot below n with nothing
outstanding becomes CHECKED with its lost tally completed, which joins the verify tally of its linked entry. -/
def Obligations.ConfidenceStripesAreTakenOrDiscarded : Prop :=
  ∀ (h : Head) (blocks : List BlockRecord) (n : Nat) (s : State), s.dev.resetHeld = false → configured s.dev = true →
    shaped s.dev →
    let x := stripeSubcode blocks
    let d0 := s.dev
    let arrives := exec (.confidenceStripeArrival h blocks) s
    let noneBelow := ∀ r ∈ records d0, r.state = .verify → n ≤ r.number
    let seen : Device := { d0 with decoder := { d0.decoder with confidence := some { segment := n, head := h } } }
    let queued := fun (r : Segment) => ({ seen with
      decoder := { seen.decoder with
        queue := d0.decoder.queue ++ [{ stream := .confidence, segment := n, head := h, subcode := x, blocks := blocks
                                        lateSeen := r.late }]
        inFlight := true }
      ring := { d0.ring with slots := d0.ring.slots.set (n % 16) (some { r with
        confidenceA := r.confidenceA || h == .a, confidenceB := r.confidenceB || h == .b }) } } : Device)
    let full := { seen with events := (withEvent (.ringOverrun .confidence n (some h) .queueFull) d0).events }
    (isUnnumbered d0.decoder.confidence h x → arrives = .next s) ∧
    (isNumbered d0.decoder.confidence h x n →
      (noneBelow →
        (∀ r, heldIn .written n d0 = some r →
          (d0.decoder.queue.length < 4 → arrives = .next (s.withDev (queued
            { r with state := .verify, old := some (List.replicate 480 lostPair) }))) ∧
          (4 ≤ d0.decoder.queue.length → arrives = .next (s.withDev full))) ∧
        (∀ r, heldIn .verify n d0 = some r →
          (takenFlag .confidence h r = true → arrives = .next (s.withDev seen)) ∧
          (takenFlag .confidence h r = false → d0.decoder.queue.length < 4 → arrives = .next (s.withDev (queued r))) ∧
          (takenFlag .confidence h r = false → 4 ≤ d0.decoder.queue.length → arrives = .next (s.withDev full))) ∧
        (heldIn .written n d0 = none → heldIn .verify n d0 = none → arrives = .next (s.withDev seen))) ∧
      ∃ d : Device, arrives = .next (s.withDev d) ∧
        ∀ m r, m < n → heldIn .verify m d0 = some r →
          (¬ nothingOutstanding .confidence r d0 → held m d = some r) ∧
          (nothingOutstanding .confidence r d0 → held m d = some (closedRecord r d0) ∧
            ∀ p e y, r.editLink = some p → entryAt p d0 = some e → e.result = some y →
              (∀ r' ∈ records d0, r'.state = .verify → r'.number < n → r'.number = m) →
              entryAt p d = some { e with result := some { y with
                tally := min 255 (y.tally + closedLost r d0)
                weak := y.weak || decide ((cfg d0).verifyLimit < min 255 (y.tally + closedLost r d0)) } }))

/-- A head A window of segment n: stripe A where the slot holds n in ENCODED with stripe A not written, and NO_WRITE
in every other case; n in FILL or ENCODING raises WRITE_LATE, and a waiting ENCODING slot becomes FREE. The window
sets the write horizon. It strands every lower segment that is ENCODED with stripe A not written: FREE, with
WRITE_LATE. Each of these tells the linked entry, once for a segment, as `isTold` says (R108); the latched detail is
the highest stranded segment, else n (the order is the model's, log 11; that a window raises it again for a segment
sealed late, log 12). It is the confidence deadline of every segment C + 1 or more below it: written and not read
back, FREE with its linked entry UNVERIFIED and one segment less in flight; in VERIFY, CHECKED with the lost tally
completed. It fixes the origin of a recording that awaits it, or ends RECORD mode where no segment n + 2 exists. -/
def Obligations.HeadAWindowAnswersFromRing : Prop :=
  ∀ (n : Nat) (s : State), s.dev.resetHeld = false → configured s.dev = true → shaped s.dev →
    let stranded := fun m => m < n ∧ ∃ r, heldIn .encoded m s.dev = some r ∧ r.writtenA = false
    let linkedTo := fun m p => ∃ r, held m s.dev = some r ∧ r.editLink = some p
    let lowestLinked := fun m p => ∀ x ∈ records s.dev, x.editLink = some p → m ≤ x.number
    ∃ d : Device, exec (.writeWindowHeadA n) s = .next (s.withDev d) ∧ d.encoder.horizon = some n ∧
      (∀ r x, heldIn .encoded n s.dev = some r → r.writtenA = false → r.stripes = some x →
        d.outputs.window = some (.stripe x.a) ∧ held n d = some { r with writtenA := true }) ∧
      ((∀ r, heldIn .encoded n s.dev = some r → r.writtenA = true) → d.outputs.window = some .noWrite) ∧
      (∀ r, heldIn .encoding n s.dev = some r → s.dev.encoder.inFlight.map EncodeJob.segment ≠ some n →
        held n d = none) ∧
      (∀ r, heldIn .encoding n s.dev = some r → s.dev.encoder.inFlight.map EncodeJob.segment = some n →
        (∀ m x, m < n → heldIn .encoded m s.dev = some x → x.writtenA = true) →
        held n d = some { r with writeLate := true }) ∧
      (∀ r, held n s.dev = some r → (r.state = .fill ∨ r.state = .encoding) → hasKind 15 d.events.pending ∧
        ((∀ m, ¬ stranded m) → isLatched (.writeLate n) d)) ∧
      (∀ r p, heldIn .encoding n s.dev = some r → r.editLink = some p → lowestLinked n p →
        let own := if s.dev.encoder.inFlight.map EncodeJob.segment = some n then 0 else 1
        (r.writeLate = false → isTold n p own none s.dev d) ∧
        (r.writeLate = true → own = 1 → linkFreed p id s.dev d)) ∧
      (∀ m, stranded m → held m d = none ∧ hasKind 15 d.events.pending) ∧
      (∀ m, stranded m → (∀ j, stranded j → j ≤ m) → (∀ p, linkedTo m p → lowestLinked m p) →
        isLatched (.writeLate m) d) ∧
      (∀ m r p, stranded m → held m s.dev = some r → r.editLink = some p → r.writeLate = false →
        (∀ x ∈ records s.dev, x.editLink = some p → x.number = m ∨ n ≤ x.number) →
        (∀ x, held n s.dev = some x → x.editLink = some p → x.state ≠ .encoding ∧ x.state ≠ .fill) →
        isTold m p 1 (some n) s.dev d) ∧
      ((∀ m, ¬ stranded m) → (∀ r, held n s.dev = some r → r.state ≠ .fill ∧ r.state ≠ .encoding) →
        kindStands 15 s.dev d) ∧
      (∀ m r, m + (cfg s.dev).confidence + 1 ≤ n → held m s.dev = some r → r.writtenA = true →
        (r.state = .written ∨ r.state = .encoded → held m d = none ∧
          ∀ p e y, r.editLink = some p → entryAt p s.dev = some e → e.result = some y →
            (∃ e' y', entryAt p d = some e' ∧ e'.result = some y' ∧ y'.unverified = true) ∧
            ((∀ x ∈ records s.dev, x.editLink = some p → x.number = m ∨ n < x.number) →
              linkFreed p (fun y => { y with unverified := true }) s.dev d)) ∧
        (r.state = .verify → held m d = some (closedRecord r s.dev))) ∧
      (s.dev.recorder.state = .awaitOrigin → n + 2 ≤ lastSegment →
        d.recorder = { s.dev.recorder with
          state := .filling, origin := some n, fill := some { segment := n + 2, offset := 0 } }) ∧
      (s.dev.recorder.state = .awaitOrigin → lastSegment < n + 2 →
        d.port.mode = .play ∧ d.recorder.state = .idle ∧ d.recorder.origin = none ∧ d.recorder.fill = none ∧
        d.recorder.program = s.dev.recorder.program ∧ isLatched (.modeChange .play .numberLimit) d) ∧
      (s.dev.recorder.state ≠ .awaitOrigin → d.recorder = s.dev.recorder ∧ d.port = s.dev.port) ∧
      d.outputs.main = s.dev.outputs.main ∧ d.outputs.monitor = s.dev.outputs.monitor ∧
      d.config = s.dev.config ∧ d.router = s.dev.router ∧ d.counters = s.dev.counters

/-- A head B window of segment n: stripe B where the slot holds n in ENCODED with stripe A written, which becomes
WRITTEN and loses its stripes; NO_WRITE with no effect in every other case. -/
def Obligations.HeadBWindowCompletesTheWriting : Prop :=
  ∀ (n : Nat) (s : State), s.dev.resetHeld = false → configured s.dev = true →
    (∀ r x, heldIn .encoded n s.dev = some r → r.writtenA = true → r.stripes = some x →
      exec (.writeWindowHeadB n) s = .next (s.withDev ({ s.dev with
        outputs := { s.dev.outputs with window := some (.stripe x.b) }
        ring := { s.dev.ring with
          slots := s.dev.ring.slots.set (n % 16)
            (some { r with writtenB := true, state := .written, stripes := none }) } }))) ∧
    ((∀ r, heldIn .encoded n s.dev = some r → r.writtenA = false) →
      exec (.writeWindowHeadB n) s =
        .next (s.withDev ({ s.dev with outputs := { s.dev.outputs with window := some .noWrite } })))

/-! ### Decodes and encodes -/

/-- A decode starts where none is in flight and the queue holds a stripe, and otherwise nothing starts. A decode
completion: the stripe leaves the queue and the next decode starts, the block counters of the stream rise, and the
samples are stored where the slot holds the segment in the state the stripe was taken for and its late flag has been
clear since the stripe was taken; otherwise the ring is left as it was. A stored completion closes a GATHER slot to
DECODED, or a VERIFY slot to CHECKED with its lost tally handed to the linked entry, where nothing of the stream is
outstanding and both stripes are taken or the stream has moved past. A rise that takes a counter to its threshold or
past it raises ERROR_RATE, and no other does; of several the last in the order mended, recovered, lost is latched (the
model's order, log 31). That a stripe of an earlier record of the segment is stored too is the model's reading (log
20). -/
def Obligations.DecodesStartAndComplete : Prop :=
  (∀ s : State,
    (s.dev.decoder.inFlight = false → s.dev.decoder.queue ≠ [] →
      exec .decodeStart s = .next (s.withDev ({ s.dev with decoder := { s.dev.decoder with inFlight := true } }))) ∧
    (s.dev.decoder.inFlight = true ∨ s.dev.decoder.queue = [] → exec .decodeStart s = .next s)) ∧
  ∀ (q : QueuedStripe) (rest : List QueuedStripe) (s : State), shaped s.dev → s.dev.decoder.inFlight = true →
    s.dev.decoder.queue = q :: rest →
    let t := decodeTally q.blocks
    ∃ d : Device, exec .decodeCompletion s = .next (s.withDev d) ∧ d.decoder.queue = rest ∧
      d.decoder.inFlight = !rest.isEmpty ∧
      (∀ n, n ≠ .mended → n ≠ .recovered → n ≠ .lost →
        (countersOf (countersStream q.stream) d).value n = (countersOf (countersStream q.stream) s.dev).value n) ∧
      (countersOf (countersStream q.stream) d).mended =
        min 65535 ((countersOf (countersStream q.stream) s.dev).mended + t.mended) ∧
      (countersOf (countersStream q.stream) d).recovered =
        min 65535 ((countersOf (countersStream q.stream) s.dev).recovered + t.recovered) ∧
      (countersOf (countersStream q.stream) d).lost =
        min 65535 ((countersOf (countersStream q.stream) s.dev).lost + t.lost) ∧
      (∀ r, heldIn (takenState q.stream) q.segment s.dev = some r → r.late = false → q.lateSeen = false →
        let r1 : Segment := { r with
          old := r.old.map (writeStripe q.head q.blocks)
          subcode := if r.valid then r.subcode else (match q.subcode with | some x => some x | none => r.subcode)
          valid := r.valid || q.subcode.isSome
          advanceTally := if q.stream = .advance then addTally r.advanceTally t else r.advanceTally
          confidenceTally := if q.stream = .confidence then addTally r.confidenceTally t else r.confidenceTally }
        let closes := nothingOutstanding q.stream r d ∧
          ((takenFlag q.stream .a r = true ∧ takenFlag q.stream .b r = true) ∨
            ∃ e, expectationOf q.stream s.dev = some e ∧ q.segment < e.segment)
        (¬ closes → held q.segment d = some r1 ∧ d.edit = s.dev.edit) ∧
        (closes → q.stream = .advance → held q.segment d = some { r1 with state := .decoded } ∧ d.edit = s.dev.edit) ∧
        (closes → q.stream = .confidence → held q.segment d = some (closedRecord r1 d) ∧
          (r.editLink = none → d.edit = s.dev.edit) ∧
          ∀ p e x, r.editLink = some p → entryAt p s.dev = some e → e.result = some x →
            let tally := min 255 (x.tally + closedLost r1 d)
            entryAt p d = some { e with result := some { x with
              tally := tally, weak := x.weak || decide ((cfg s.dev).verifyLimit < tally) } })) ∧
      (let passes := fun n k => passesThreshold (countersStream q.stream) n k s.dev
       (passes .lost t.lost → isLatched (.errorRate (countersStream q.stream) .lost) d) ∧
       (passes .recovered t.recovered → ¬ passes .lost t.lost →
         isLatched (.errorRate (countersStream q.stream) .recovered) d) ∧
       (passes .mended t.mended → ¬ passes .recovered t.recovered → ¬ passes .lost t.lost →
         isLatched (.errorRate (countersStream q.stream) .mended) d) ∧
       (¬ passes .mended t.mended → ¬ passes .recovered t.recovered → ¬ passes .lost t.lost →
         d.events = s.dev.events)) ∧
      ((∀ r, heldIn (takenState q.stream) q.segment s.dev = some r → r.late = true ∨ q.lateSeen = true) →
        d.ring = s.dev.ring) ∧
      d.port = s.dev.port ∧ d.config = s.dev.config ∧ d.encoder = s.dev.encoder ∧ d.link = s.dev.link

/-- An encode starts on the lowest ENCODING segment where none is in flight, with the stripes, the feedback and the
generator of `encoderStarted`: the continuity test and the treatment of each pair by the kind of segment (R34, R35); the
slot stays ENCODING and its record is not changed. Otherwise nothing starts. An encode completion: ENCODED with its
stripes where the slot still holds the segment in ENCODING and its window has not passed, FREE where it has passed, with
WRITE_LATE and the linked entry told (`isTold`, R108) unless the record's write-late flag is set, else with one segment
less in flight; discarded whole where the slot holds anything else. In each case the next encode starts, feedback and
generator as the last left them. The stripes are formed at the start (the model's choice, log 7), and the check and
parity octets are free values (log 6). -/
def Obligations.EncodesStartAndComplete : Prop :=
  (∀ s : State, ringPlaced s.dev →
    (∀ n r x, s.dev.encoder.inFlight = none → heldIn .encoding n s.dev = some r →
      (∀ m, (heldIn .encoding m s.dev).isSome = true → n ≤ m) → r.subcode = some x →
      exec .encodeStart s = .next (s.withDev { s.dev with encoder := encoderStarted r x s.dev })) ∧
    (∀ n r, s.dev.encoder.inFlight = none → heldIn .encoding n s.dev = some r →
      (∀ m, (heldIn .encoding m s.dev).isSome = true → n ≤ m) →
      ∃ job e, exec .encodeStart s = .next (s.withDev ({ s.dev with encoder := e })) ∧
        e.inFlight = some job ∧ job.segment = n ∧ e.last = some n ∧ e.horizon = s.dev.encoder.horizon ∧
        job.stripes.a.length = 38 ∧ job.stripes.b.length = 38) ∧
    (s.dev.encoder.inFlight ≠ none ∨ noneIn [.encoding] s.dev → exec .encodeStart s = .next s)) ∧
  ∀ (job : EncodeJob) (s : State), shaped s.dev → s.dev.encoder.inFlight = some job →
    let n := job.segment
    let passed := ∃ h, s.dev.encoder.horizon = some h ∧ n ≤ h
    ∃ d : Device, exec .encodeCompletion s = .next (s.withDev d) ∧
      encodesLowest { s.dev with encoder := { s.dev.encoder with inFlight := none } } d ∧
      (∀ next, d.encoder.inFlight = some next → (heldIn .encoding next.segment d).isSome = true) ∧
      (∀ r, heldIn .encoding n s.dev = some r → ¬ passed → held n d = some
        { r with state := .encoded, stripes := some job.stripes, writtenA := false, writtenB := false, new := none,
                 gains := none, old := none } ∧ d.edit = s.dev.edit) ∧
      (∀ r, heldIn .encoding n s.dev = some r → passed → held n d = none ∧
        (r.writeLate = false → isLatched (.writeLate n) d ∧ ∀ p, r.editLink = some p → isTold n p 1 none s.dev d) ∧
        (r.writeLate = true → kindStands 15 s.dev d ∧ ∀ p, r.editLink = some p → linkFreed p id s.dev d) ∧
        (r.editLink = none → d.edit = s.dev.edit)) ∧
      (heldIn .encoding n s.dev = none → d.ring = s.dev.ring ∧ d.edit = s.dev.edit ∧ d.events = s.dev.events) ∧
      d.encoder.horizon = s.dev.encoder.horizon ∧ d.port = s.dev.port ∧ d.config = s.dev.config

/-! ### Sends and messages -/

/-- A send starts with the first message at bit 0 and the yield at 0, once the quiet count has reached the threshold: 8
for URGENT and 12 for other kinds, plus the yield. A completed send leaves the queue with yield 3 and echo run 0; a
report's entry has its report SENT or its place emptied. -/
def Obligations.SendsStartAndComplete : Prop :=
  ∀ (m : Queued) (rest : List Queued) (s : State), s.dev.link.attachment = .attached →
    s.dev.link.queue = m :: rest →
    (s.dev.link.receiver = .idle → m.sent = none → (∀ x ∈ rest, x.sent = none) →
      (if m.kind < 8 then 8 else 12) + s.dev.link.yieldCount ≤ s.dev.link.quiet →
      exec .sendStart s = .next (s.withDev { s.dev with
        link := { s.dev.link with queue := { m with sent := some 0 } :: rest, yieldCount := 0 } })) ∧
    (m.sent ≠ none → nothingWaits s.dev →
      ((∀ p, m.origin ≠ .report p) →
        exec .sendCompletion s = .next (s.withDev { s.dev with
          link := { s.dev.link with queue := rest, yieldCount := 3, echoRun := 0 } })) ∧
      ∀ p, m.origin = .report p → ∃ d : Device, exec .sendCompletion s = .next (s.withDev d) ∧
        d.link = { s.dev.link with queue := rest, yieldCount := 3, echoRun := 0 } ∧
        (∀ e, entryAt p d = some e → e.report = .sent) ∧ d.ring = s.dev.ring ∧ d.table = s.dev.table)

/-- A completed SLOT_CLAIM for a FREE slot makes its source the owner, with the copy status UNKNOWN; this station's own
claim is WON and the drive starts; a claim this station has queued for the slot is withdrawn and REFUSED. A claim for a
HELD slot is ignored. -/
def Obligations.ClaimMessageTakesFreeSlot : Prop :=
  ∀ (m : LinkMessage) (k : Nat) (s : State), receivesMessage s.dev → tablesShaped s.dev → k ≤ 11 →
    m.body = [BitVec.ofNat 8 k] →
    let e := slotEntry k s.dev
    let changed := withEvent (.slotChange k (some m.source) .claimed) (afterMessage s.dev)
    (e.owner ≠ none → exec (.slotClaimMessage m) s = .next (s.withDev (afterMessage s.dev))) ∧
    (e.owner = none → m.source = (cfg s.dev).station →
      exec (.slotClaimMessage m) s = .next (s.withDev { withEvent (.claimResult k none) changed with
        gate := { s.dev.gate with relays := s.dev.gate.relays.set k Relay.empty }
        table := s.dev.table.set k { e with
          owner := some m.source, copy := some .unknown, lastWord := none, absence := 0, invalidRun := 0,
          ownClaim := false, drive := some .driving } })) ∧
    (e.owner = none → m.source ≠ (cfg s.dev).station → e.ownClaim = false →
      exec (.slotClaimMessage m) s = .next (s.withDev { changed with
        table := s.dev.table.set k { e with
          owner := some m.source, copy := some .unknown, lastWord := none, absence := 0, invalidRun := 0 } })) ∧
    (e.owner = none → m.source ≠ (cfg s.dev).station → e.ownClaim = true → e.ownRelease ≠ .owed →
      ∃ d : Device, exec (.slotClaimMessage m) s = .next (s.withDev d) ∧
        slotEntry k d = { e with
          owner := some m.source, copy := some .unknown, lastWord := none, absence := 0, invalidRun := 0,
          ownClaim := false } ∧
        isLatched (.slotChange k (some m.source) .claimed) d ∧ isLatched (.claimResult k (some .taken)) d ∧
        d.link.queue.countP (isSlotMessage 2 k) = s.dev.link.queue.countP (isSlotMessage 2 k) - 1 ∧
        d.ring = s.dev.ring ∧ d.gate = s.dev.gate ∧ d.chase = s.dev.chase)

/-- A completed SLOT_RELEASE from the owner frees the entry, keeps its own claim queued flag, ends the driving and
raises SLOT_CHANGE and no SLOT_LOST; from anyone else it is ignored. -/
def Obligations.ReleaseMessageFreesSlot : Prop :=
  ∀ (m : LinkMessage) (k : Nat) (s : State), receivesMessage s.dev → tablesShaped s.dev → k ≤ 11 →
    m.body = [BitVec.ofNat 8 k] →
    let e := slotEntry k s.dev
    (e.owner ≠ some m.source → exec (.slotReleaseMessage m) s = .next (s.withDev (afterMessage s.dev))) ∧
    (e.owner = some m.source →
      ∃ d : Device, exec (.slotReleaseMessage m) s = .next (s.withDev d) ∧
        d.table = s.dev.table.set k { SlotEntry.free with ownClaim := e.ownClaim } ∧
        d.gate = { s.dev.gate with relays := s.dev.gate.relays.set k Relay.empty } ∧
        d.link = (afterMessage s.dev).link ∧ d.ring = s.dev.ring ∧ d.port = s.dev.port ∧
        (s.dev.chase.leadSlot ≠ some k → d.chase = s.dev.chase ∧ d.edit = s.dev.edit ∧
          d.events = (withEvent (.slotChange k none .released) s.dev).events) ∧
        (s.dev.chase.leadSlot = some k → chaseRunning s.dev.chase = true → d.chase.state = .holdover) ∧
        isLatched (.slotChange k none .released) d ∧
        (hasKind 3 d.events.pending ↔ hasKind 3 s.dev.events.pending))

/-- Edit and chase messages: not addressed, they are discarded without an event; from outside the edit authority set,
they raise FOREIGN_REQUEST and are ignored; from inside it they act as the same request at the control port, an edit
post with its fields (`postFields`), its source as poster and a report not yet due. A refused edit post (BAD_ARG out
of the ranges of `postInRange`, DUPLICATE or FULL) is answered with one EDIT_REPORT to its source, which carries the
tag, the refusal and no result, and is lost where the outgoing queue is full. -/
def Obligations.EditAndChaseMessagesNeedAuthority : Prop :=
  ∀ (m : LinkMessage) (s : State), receivesMessage s.dev → shaped s.dev →
    let d0 := afterMessage s.dev
    let trusted := (cfg s.dev).authority.getLsbD m.source = true
    (∀ c kind, (c = .editPostMessage m ∧ kind = 9 ∧ m.body.length = 9) ∨
        (c = .editCancelMessage m ∧ kind = 8 ∧ m.body.length = 1) ∨
        (c = .chaseSetMessage m ∧ kind = 12 ∧ m.body.length = 6) →
      (¬ isAddressed m s.dev → exec c s = .next (s.withDev d0)) ∧
      (isAddressed m s.dev → ¬ trusted →
        exec c s = .next (s.withDev (withEvent (.foreignRequest kind m.source) d0)))) ∧
    (isAddressed m s.dev → trusted →
      (m.body.length = 9 → postInRange m.body →
        placeOf (.station m.source) (postFields m.body).tag s.dev = none → entryAt s.dev.edit.head s.dev = none →
        s.dev.ring.play.state ≠ .running →
        ∃ d : Device, exec (.editPostMessage m) s = .next (s.withDev d) ∧ d.link = d0.link ∧ d.ring = s.dev.ring ∧
          entryAt s.dev.edit.head d = some {
            state := .pending, poster := .station m.source, post := postFields m.body
            target := match (postFields m.body).trigger with
              | .atPosition n o => some { segment := n, offset := o }
              | _ => none
            fired := false, outcome := none, status := none, result := none, report := .notDue } ∧
          d.edit.head = (s.dev.edit.head + 1) % 32) ∧
      (m.body.length = 9 → ∀ refusal : Nat,
        ((¬ postInRange m.body ∧ refusal = 16) ∨
          (postInRange m.body ∧
            ((placeOf (.station m.source) (m.body.getD 0 0) s.dev ≠ none ∧ refusal = 17) ∨
              (placeOf (.station m.source) (m.body.getD 0 0) s.dev = none ∧ entryAt s.dev.edit.head s.dev ≠ none ∧
                refusal = 18)))) →
        (8 ≤ s.dev.link.queue.length → exec (.editPostMessage m) s = .next (s.withDev d0)) ∧
        let answer : Queued :=
          { kind := 10, destination := m.source
            body := [m.body.getD 0 0, BitVec.ofNat 8 refusal] ++ List.replicate 8 0
            losses := 0, origin := .refusalReport, sent := none }
        (s.dev.link.queue.length < 8 → exec (.editPostMessage m) s = .next (s.withDev { d0 with
          link := { d0.link with queue := joinQueue answer d0.link.queue } }))) ∧
      (m.body.length = 1 →
        (placeOf (.station m.source) (m.body.getD 0 0) s.dev = none →
          exec (.editCancelMessage m) s = .next (s.withDev d0)) ∧
        ∀ p e, placeOf (.station m.source) (m.body.getD 0 0) s.dev = some p → entryAt p s.dev = some e →
          e.state = .pending → e.fired = false →
          ∃ (d : Device) (e' : Entry), exec (.editCancelMessage m) s = .next (s.withDev d) ∧
            entryAt p d = some e' ∧ e'.state = .retired ∧ e'.status = some .cancelled ∧ chainSkipped p s.dev d ∧
            d.ring = s.dev.ring) ∧
      (m.body.length = 6 → octetAt 0 m.body ≤ 11 →
        (slotEntry (octetAt 0 m.body) s.dev).owner ≠ some (cfg s.dev).station →
        ∃ d : Device, exec (.chaseSetMessage m) s = .next (s.withDev d) ∧ d.chase.state = .waiting ∧
          d.chase.leadSlot = some (octetAt 0 m.body) ∧
          d.chase.offset = some (ofSignedOctets ((m.body.drop 1).take 3) * 480 +
            ofSignedOctets ((m.body.drop 4).take 2)) ∧ d.link = d0.link))

/-- An EDIT_REPORT of its length and a message of a kind outside the table end the reception and do nothing else. A
message that fails its check, and a slot message with a slot above 11, also raise the bad-message count, which saturates
at 255. -/
def Obligations.UnactedAndBadMessages : Prop :=
  ∀ (m : LinkMessage) (kind : Nat) (s : State), receivesMessage s.dev →
    (m.body.length = 10 → exec (.editReportMessage m) s = .next (s.withDev (afterMessage s.dev))) ∧
    ((Instr.messageOfUnknownKind kind m).wellFormed = true →
      exec (.messageOfUnknownKind kind m) s = .next (s.withDev (afterMessage s.dev))) ∧
    (let d := afterMessage s.dev
     let counted := { d with link := { d.link with bad := min 255 (d.link.bad + 1) } }
     exec .badMessage s = .next (s.withDev counted) ∧
     (m.body.length = 1 → 11 < octetAt 0 m.body →
       exec (.slotClaimMessage m) s = .next (s.withDev counted) ∧
       exec (.slotReleaseMessage m) s = .next (s.withDev counted)))

/-- A status word that the chase does not take, at the Slot Table. Valid: its owner's entry takes copy status, position
and motion; a FREE entry learns another station, and a claim this station has queued for the slot is withdrawn and
REFUSED; another station's entry changes owner, and this station's slot is lost. A valid word that names this station
for another's slot is taken into the copy status and changes nothing else (log 27). A word that fails its check raises
the run of a HELD entry, whose copy status becomes UNKNOWN at the second in a row; at the fourth a slot this station
drives is a double drive; a FREE entry is left as it is. -/
def Obligations.StatusWordsTeachTheTable : Prop :=
  ∀ (k : Nat) (word : BitVec 64) (s : State), s.dev.link.attachment = .attached → k ≤ 11 →
    (s.dev.chase.leadSlot = some k →
      s.dev.chase.state = .off ∨ validWord word = false ∨ (readWord word).owner = (cfg s.dev).station) →
    tablesShaped s.dev →
    let e := slotEntry k s.dev
    let w := readWord word
    let taken : SlotEntry := { e with
      owner := some w.owner, copy := some w.copy, lastWord := some { position := w.position, motion := w.motion },
      invalidRun := 0 }
    (validWord word = true → e.owner = some w.owner →
      exec (.statusWordCompletion k word) s = .next (s.withDev { s.dev with table := s.dev.table.set k taken })) ∧
    (validWord word = true → e.owner = none → w.owner = (cfg s.dev).station →
      exec (.statusWordCompletion k word) s = .next s) ∧
    (validWord word = true → e.owner = none → w.owner ≠ (cfg s.dev).station → e.ownClaim = false →
      exec (.statusWordCompletion k word) s = .next (s.withDev
        { withEvent (.slotChange k (some w.owner) .learned) s.dev with
          table := s.dev.table.set k { taken with absence := 0 } })) ∧
    (validWord word = true → e.owner = none → w.owner ≠ (cfg s.dev).station → e.ownClaim = true →
      e.ownRelease ≠ .owed →
      ∃ d : Device, exec (.statusWordCompletion k word) s = .next (s.withDev d) ∧
        slotEntry k d = { taken with absence := 0, ownClaim := false } ∧
        isLatched (.slotChange k (some w.owner) .learned) d ∧ isLatched (.claimResult k (some .taken)) d ∧
        d.link.queue.countP (isSlotMessage 2 k) = s.dev.link.queue.countP (isSlotMessage 2 k) - 1 ∧
        d.ring = s.dev.ring ∧ d.gate = s.dev.gate ∧ d.chase = s.dev.chase) ∧
    (∀ p, validWord word = true → e.owner = some p → p ≠ (cfg s.dev).station → p ≠ w.owner →
      w.owner ≠ (cfg s.dev).station →
      exec (.statusWordCompletion k word) s = .next (s.withDev
        { withEvent (.slotChange k (some w.owner) .replaced) s.dev with
          table := s.dev.table.set k { taken with absence := 0 } })) ∧
    (∀ p, validWord word = true → e.owner = some p → p ≠ (cfg s.dev).station → w.owner = (cfg s.dev).station →
      exec (.statusWordCompletion k word) s = .next (s.withDev { s.dev with
        table := s.dev.table.set k { e with copy := some w.copy } })) ∧
    (validWord word = true → e.owner = some (cfg s.dev).station → w.owner ≠ (cfg s.dev).station →
      ∃ d : Device, exec (.statusWordCompletion k word) s = .next (s.withDev d) ∧
        slotEntry k d = { taken with absence := 0, drive := none, ownRelease := .none_ } ∧
        (relayOf k d).history = [] ∧ isLatched (.slotLost k .overruled) d ∧ d.ring = s.dev.ring) ∧
    (∀ p, validWord word = false → e.owner = some p →
      (p ≠ (cfg s.dev).station ∨ e.drive ≠ some .driving ∨ e.invalidRun + 1 < 4) →
      exec (.statusWordCompletion k word) s = .next (s.withDev { s.dev with table := s.dev.table.set k { e with
        invalidRun := min 255 (e.invalidRun + 1),
        copy := if 1 ≤ e.invalidRun then some .unknown else e.copy } })) ∧
    (validWord word = false → e.owner = some (cfg s.dev).station → e.drive = some .driving → 4 ≤ e.invalidRun + 1 →
      ∃ d : Device, exec (.statusWordCompletion k word) s = .next (s.withDev d) ∧
        slotEntry k d = { e with
          invalidRun := min 255 (e.invalidRun + 1), copy := some .unknown, drive := some .stopped,
          ownRelease := if e.ownRelease = .none_ then (if s.dev.link.queue.length < 8 then .queued else .owed)
            else e.ownRelease } ∧
        isLatched (.slotLost k .doubleDrive) d ∧ (relayOf k d).history = [] ∧
        (∀ j, j ≠ k → slotEntry j d = slotEntry j s.dev) ∧ d.ring = s.dev.ring ∧ d.chase = s.dev.chase) ∧
    (validWord word = false → e.owner = none →
      exec (.statusWordCompletion k word) s = .next s)

/-- A lead word: a valid status word of the lead slot from another station, in every state of the chase but OFF, with an
own latch. The pending trim joins the offset, the error is the lead position plus the offset minus the own latch, and
the table of R176 gives state, cause and lock run; the correction and the wind request follow the state and the error. A
change of state raises CHASE_CHANGE, no change raises none; a leaving of LOCKED flags the inserting entry. At the Slot
Table the word acts as any other. -/
def Obligations.LeadWordsUpdateTheChase : Prop :=
  ∀ (k : Nat) (word : BitVec 64) (latch : Nat) (s : State), s.dev.link.attachment = .attached → k ≤ 11 →
    tablesShaped s.dev → s.dev.chase.leadSlot = some k → s.dev.chase.state ≠ .off →
    s.dev.chase.ownLatch = some latch → validWord word = true → (readWord word).owner ≠ (cfg s.dev).station →
    let c := s.dev.chase
    let w := readWord word
    let newLead := c.leadOwner.isSome && c.leadOwner != some w.owner
    let offset := max (-8053063679) (min 8053063679 (c.offset.getD 0 + c.trim))
    let error : Int := ((w.position.segment * 480 + w.position.offset : Nat) : Int) + offset - latch
    let verdict := chaseTable c.state newLead (if newLead then 0 else c.lockRun) error.natAbs
    ∃ d : Device, exec (.statusWordCompletion k word) s = .next (s.withDev d) ∧
      d.chase = { c with
        state := verdict.1, leadOwner := some w.owner, offset := some offset, trim := 0
        leadWord := some { position := w.position, motion := w.motion, age := 63 }
        error := some error
        correction := if verdict.1 = .catching ∨ verdict.1 = .locked then
          max (-127) (min 127 (Int.tdiv error 8)) else 0
        wind := if verdict.1 = .seeking then (if 0 < error then .windFwd else .windRev) else .none_
        lockRun := verdict.2.2, wordGap := 0, holdoverCount := 0 } ∧
      (∀ cause, verdict.2.1 = some cause → isLatched (.chaseChange verdict.1 cause (some error)) d) ∧
      (verdict.2.1 = none → (hasKind 14 d.events.pending ↔ hasKind 14 s.dev.events.pending) ∧
        d.events.details.getD 14 none = s.dev.events.details.getD 14 none) ∧
      (c.state = .locked → verdict.1 ≠ .locked → ∀ p e x, s.dev.edit.insertion = some p →
        entryAt p s.dev = some e → e.result = some x →
        ∃ e', entryAt p d = some e' ∧ e'.result = some { x with lockLost := true }) ∧
      (∀ d0 : Device, exec (.statusWordCompletion k word)
          (s.withDev { s.dev with chase := { c with state := .off } }) = .next (s.withDev d0) →
        d.table = d0.table ∧ d.gate = d0.gate ∧ d.link = d0.link) ∧
      d.ring = s.dev.ring ∧ d.port = s.dev.port ∧ d.config = s.dev.config

/-! ### Playouts -/

/-- A STOPPED play playout enters PREFILL where the four conditions hold, and otherwise stays STOPPED. In PREFILL it
starts at the lowest DECODED segment n where n to n+P−1 are all DECODED: slot n becomes PLAYOUT, position n:0, RUNNING;
with nothing DECODED it stays. A run from n that is broken at n+k, neither DECODED nor GATHER, makes slot n stale where
a DECODED segment lies above n+k: it becomes FREE without an event. That no GATHER slot becomes FREE with it is the
model's choice (log 32). Where no DECODED segment lies above, or the run only waits for GATHER segments, nothing
changes. -/
def Obligations.PrefillEntersAndStarts : Prop :=
  ∀ s : State,
    (s.dev.ring.play.state = .stopped → configured s.dev = true → s.dev.port.motion = .playing →
      s.dev.port.mode ≠ .record → s.dev.ring.play.ended = false →
      exec .prefillEntry s = .next (s.withDev { s.dev with
        ring := { s.dev.ring with play := { s.dev.ring.play with state := .prefill } } })) ∧
    ((s.dev.ring.play.state ≠ .stopped ∨ configured s.dev = false ∨ s.dev.port.motion ≠ .playing ∨ s.dev.port.mode = .record ∨
        s.dev.ring.play.ended = true) → exec .prefillEntry s = .next s) ∧
    (s.dev.ring.play.state = .prefill → ringPlaced s.dev →
      (noneIn [.decoded] s.dev → exec .playPlayoutStart s = .next s) ∧
      ∀ n r, heldIn .decoded n s.dev = some r → (∀ m, (heldIn .decoded m s.dev).isSome = true → n ≤ m) →
        1 ≤ (cfg s.dev).prefill →
        (∀ k, k < (cfg s.dev).prefill → (heldIn .decoded (n + k) s.dev).isSome = true) →
        ∃ d : Device, exec .playPlayoutStart s = .next (s.withDev d) ∧
          d.ring.play = { s.dev.ring.play with state := .running, position := { segment := n, offset := 0 } } ∧
          held n d = some { r with state := .playout
                                   subcode := if r.valid then r.subcode else s.dev.decoder.playCarry } ∧
          (∀ m, m % 16 ≠ n % 16 → slotOf m d = slotOf m s.dev) ∧
          d.decoder.playCarry = (if r.valid then r.subcode else s.dev.decoder.playCarry) ∧
          d.ring.conf = s.dev.ring.conf ∧ d.link.attachment = s.dev.link.attachment) ∧
    (s.dev.ring.play.state = .prefill → ringPlaced s.dev →
      ∀ n r, heldIn .decoded n s.dev = some r → (∀ m, (heldIn .decoded m s.dev).isSome = true → n ≤ m) →
        let broken := fun k => k < (cfg s.dev).prefill ∧ heldIn .decoded (n + k) s.dev = none ∧
          heldIn .gather (n + k) s.dev = none
        ((∀ k, ¬ broken k) → (∃ k, k < (cfg s.dev).prefill ∧ heldIn .decoded (n + k) s.dev = none) →
          exec .playPlayoutStart s = .next s) ∧
        ∀ k, broken k → (∀ j, j < k → ¬ broken j) →
          ((∀ m, (heldIn .decoded m s.dev).isSome = true → m ≤ n + k) → exec .playPlayoutStart s = .next s) ∧
          (r.editLink = none → (∃ m, (heldIn .decoded m s.dev).isSome = true ∧ n + k < m) →
            exec .playPlayoutStart s = .next (s.withDev { s.dev with
              ring := { s.dev.ring with slots := s.dev.ring.slots.set (n % 16) none } })))

/-- The end of segment n where it is not sealed: in PLAY mode, untouched, or spoiled. Slot n becomes FREE, the marks of
a spoiled segment retiring BROKEN, and the playout is at n+1:0 in what that slot holds: DECODED becomes PLAYOUT; GATHER
is taken over with the late flag set, every sample LOST and its queued decodes marked to be discarded; a FREE slot is
allocated in PLAYOUT as an absent segment; anything else blocks the segment, which is played with no slot: a blocker
below n+1 in GATHER or DECODED becomes FREE, any other stays, and an insertion that runs is broken. At segment
16,777,215 the playout is STOPPED and ended, its contexts at their start; the offset it keeps is a free value. Before
the 480th pair there is no end. Offset 480 as the mark of an end that is due is the model's (log 8). -/
def Obligations.PlaySegmentEndMovesOn : Prop :=
  ∀ (n : Nat) (s : State), shaped s.dev →
    (s.dev.ring.play.state ≠ .running ∨ s.dev.ring.play.position.offset < 480 →
      exec .playSegmentEnd s = .next s) ∧
    (s.dev.ring.play.state = .running → s.dev.ring.play.position = { segment := n, offset := 480 } →
      (s.dev.port.mode ≠ .insert ∨ s.dev.edit.touch.spoiled = true ∨
        (s.dev.edit.touch.marks = [] ∧ ∀ r, heldIn .playout n s.dev = some r → r.gains = none)) →
      ∃ d : Device, exec .playSegmentEnd s = .next (s.withDev d) ∧
        ((heldIn .playout n s.dev).isSome = true → slotOf n d = none ∧
          (s.dev.edit.touch.spoiled = true → ∀ m ∈ s.dev.edit.touch.marks, ∀ e, entryAt m s.dev = some e →
            e.state = .verifying → s.dev.edit.insertion ≠ some m →
            ∃ e', entryAt m d = some e' ∧ e'.state = .retired ∧ e'.status = some .broken)) ∧
        d.gate.recordedRun = none ∧ d.edit.touch = Touch.empty ∧ d.port = s.dev.port ∧ d.config = s.dev.config ∧
        (n < lastSegment →
          d.ring.play = { s.dev.ring.play with position := { segment := n + 1, offset := 0 } } ∧
          (∀ r, heldIn .decoded (n + 1) s.dev = some r → held (n + 1) d = some
            { r with state := .playout, subcode := if r.valid then r.subcode else s.dev.decoder.playCarry }) ∧
          (∀ r, heldIn .gather (n + 1) s.dev = some r → held (n + 1) d = some
            { r with state := .playout, late := true, old := some (List.replicate 480 lostPair),
                     subcode := if r.valid then r.subcode else s.dev.decoder.playCarry } ∧
            d.decoder.queue = s.dev.decoder.queue.map (fun q =>
              if q.segment % 16 = (n + 1) % 16 then { q with lateSeen := true } else q)) ∧
          (slotOf (n + 1) s.dev = none → held (n + 1) d = some
            { freshSegment (n + 1) .playout with
              old := some (List.replicate 480 lostPair), subcode := s.dev.decoder.playCarry }) ∧
          (∀ r, slotOf (n + 1) s.dev = some r → heldIn .decoded (n + 1) s.dev = none →
            heldIn .gather (n + 1) s.dev = none →
            slotOf (n + 1) d = (if r.number < n + 1 ∧ (r.state = .gather ∨ r.state = .decoded) then none else some r) ∧
            d.decoder.playCarry = s.dev.decoder.playCarry ∧
            ∀ p e, s.dev.edit.insertion = some p → entryAt p s.dev = some e → e.state = .inserting →
              p ∉ s.dev.edit.touch.marks →
              d.edit.insertion = none ∧ d.edit.gain = 0 ∧
              ∃ e', entryAt p d = some e' ∧ (e'.state = .verifying ∨ e'.state = .retired) ∧
                (e.outcome = some .done → e'.outcome = some .broken ∨ e'.status = some .broken))) ∧
        (n = lastSegment → d.ring.play = { state := .stopped, position := positionAfterLast, ended := true } ∧
          (∀ ch, contextOf ⟨.play, ch⟩ d = Context.start) ∧ d.decoder.playCarry = none))

/-- The end of a touched segment n in INSERT mode that is not spoiled: an INSERT sealing. SHUT (the accumulator SPENT
or UNKNOWN, or old audio kept under an UNKNOWN old status): COPY_REFUSED, the slot FREE, the touched insertion refused
and dropped with its chained PUNCH_OUT SKIPPED, the marks REFUSED_COPY. OPEN: the slot is ENCODING with its subcode,
VALID, and its edit link, which names the insertion, else the first mark; the linked entry's last segment is n and its
in-flight count rises, the other marks retire DONE. A sealing whose window has passed raises WRITE_LATE and breaks the
entry, its last segment n - 1 or absent and its insertion dropped; one that is on time does not. An idle encoder
starts on the lowest ENCODING segment, and GATE_CHANGE tells a decision that differs from the last. The playout moves
to n+1:0, and at segment 16,777,215 it is STOPPED and ended, its contexts at their start, the offset it keeps a free
value (log 8). That SHUT overrides an earlier outcome is the model's reading (log 13), and offset 480 its mark of an
end that is due (log 8). -/
def Obligations.InsertSegmentEndSeals : Prop :=
  ∀ (n : Nat) (r : Segment) (s : State), shaped s.dev → s.dev.ring.play.state = .running →
    s.dev.ring.play.position = { segment := n, offset := 480 } → n ≤ lastSegment → s.dev.port.mode = .insert →
    heldIn .playout n s.dev = some r → (r.gains ≠ none ∨ s.dev.edit.touch.marks ≠ []) →
    s.dev.edit.touch.spoiled = false → r.writeLate = false →
    (∀ m ∈ s.dev.edit.touch.marks, ∃ e, entryAt m s.dev = some e ∧ e.state = .verifying ∧ e.result ≠ none ∧
      s.dev.edit.insertion ≠ some m) →
    s.dev.edit.touch.marks.Nodup →
    (∀ p, s.dev.edit.touch.insertion = some p → p ∉ s.dev.edit.touch.marks ∧ ∃ e, entryAt p s.dev = some e ∧
      (e.state = .verifying ∨ e.state = .inserting) ∧ (e.state = .inserting ↔ s.dev.edit.insertion = some p) ∧
      e.result ≠ none) →
    let touch := s.dev.edit.touch
    let oldStatus := match r.subcode with | some x => x.copy | none => .unknown
    let keeps := match r.gains with | some g => g.any (fun x => decide (x < 256)) | none => true
    let cause : Option CopyCause :=
      if r.gate = some .spent then some .feedSpent
      else if r.gate = some .unknown then some .feedUnknown
      else if keeps = true ∧ oldStatus = .unknown then some .oldUnknown else none
    let late := ∃ h, s.dev.encoder.horizon = some h ∧ n ≤ h
    let nextOpen := n = lastSegment ∨ slotOf (n + 1) s.dev = none ∨ heldIn .decoded (n + 1) s.dev ≠ none ∨
      heldIn .gather (n + 1) s.dev ≠ none
    ∃ d : Device, exec .playSegmentEnd s = .next (s.withDev d) ∧
      d.ring.play = (if n < lastSegment then { s.dev.ring.play with position := { segment := n + 1, offset := 0 } }
        else { state := .stopped, position := positionAfterLast, ended := true }) ∧
      (n = lastSegment → (∀ ch, contextOf ⟨.play, ch⟩ d = Context.start) ∧ d.decoder.playCarry = none) ∧
      d.edit.touch = Touch.empty ∧ d.gate.recordedRun = none ∧ d.port = s.dev.port ∧ d.config = s.dev.config ∧
      (∀ x, cause = some x → slotOf n d = none ∧ d.gate.lastDecision = .shut ∧
        isLatched (.copyRefused n .insert x) d ∧
        (s.dev.gate.lastDecision ≠ .shut → isLatched (.gateChange .shut n .insert) d) ∧
        (∀ m ∈ touch.marks, ∃ e', entryAt m d = some e' ∧ e'.state = .retired ∧ e'.status = some .refusedCopy) ∧
        ∀ p, touch.insertion = some p →
          (s.dev.edit.insertion = some p → d.edit.insertion = none ∧ d.edit.gain = 0 ∧ d.edit.phase = none) ∧
          (∃ e', entryAt p d = some e' ∧ (e'.state = .verifying ∧ e'.outcome = some .refusedCopy ∨
            e'.state = .retired ∧ e'.status = some .refusedCopy)) ∧
          chainSkipped p s.dev d) ∧
      (cause = none → ∀ q, (touch.insertion.or touch.marks.head?) = some q → ∃ (r' : Segment) (x : Subcode),
        held n d = some r' ∧ r'.state = .encoding ∧ r'.subcode = some x ∧ r'.valid = true ∧
        r'.decision = some .opened ∧ r'.editLink = some q ∧ r'.old = r.old ∧ r'.gains = r.gains ∧ r'.new = r.new ∧
        x.segment = n ∧ x.origin = .insert ∧ x.refused = false ∧ x.station = (cfg s.dev).station ∧
        x.editOffset = r.editOffset ∧
        (∀ y, r.subcode = some y → x.program = y.program ∧ x.indexMark = (y.indexMark || r.indexRequest) ∧
          x.wordLength = y.wordLength ∧ x.label = y.label) ∧
        (r.subcode = none → x.program = none ∧ x.indexMark = r.indexRequest ∧
          x.wordLength = (cfg s.dev).wordLength ∧ x.label = (cfg s.dev).label) ∧
        x.copy = (match r.gate with
          | none => oldStatus
          | some _ =>
            if keeps then (match s.dev.gate.recordedRun with
              | some run => moreRestrictive run oldStatus
              | none => oldStatus)
            else s.dev.gate.recordedRun.getD .openCopy) ∧
        d.gate.lastDecision = .opened ∧
        (s.dev.gate.lastDecision ≠ .opened → isLatched (.gateChange .opened n .insert) d) ∧
        d.encoder.inFlight ≠ none ∧ (s.dev.encoder.inFlight ≠ none → d.encoder = s.dev.encoder) ∧
        (s.dev.encoder.inFlight = none → encodesLowest s.dev d) ∧
        (∀ m ∈ touch.marks, m ≠ q → ∃ e' y', entryAt m d = some e' ∧ e'.state = .retired ∧ e'.status = some .done ∧
          e'.result = some y' ∧ y'.first = some n ∧ y'.last = some n) ∧
        (late → r'.writeLate = true ∧ isLatched (.writeLate n) d ∧
          (s.dev.edit.insertion = some q → d.edit.insertion = none ∧ d.edit.gain = 0 ∧ d.edit.phase = none ∧
            chainSkipped q s.dev d) ∧
          (∃ e', entryAt q d = some e' ∧ ∀ e, entryAt q s.dev = some e → e.outcome = some .done →
            e'.outcome = some .broken ∨ e'.status = some .broken) ∧
          (nextOpen → (∀ y ∈ records s.dev, y.editLink = some q → y.number ≤ n) →
            ∀ e y, entryAt q s.dev = some e → e.result = some y →
              let first := if touch.insertion = none then some n else y.first
              entryAt q d = some { e with
                state := .verifying
                outcome := if e.outcome = some .done then some .broken else e.outcome
                result := some { y with
                  first := first
                  last := match first with
                    | some f => if f < n then some (n - 1) else none
                    | none => none
                  inFlight := y.inFlight + 1 } })) ∧
        (¬ late → nextOpen →
          r'.writeLate = r.writeLate ∧ d.edit.insertion = s.dev.edit.insertion ∧
          ∀ e y, entryAt q s.dev = some e → e.result = some y → entryAt q d = some { e with result := some { y with
            first := if touch.insertion = none then some n else y.first
            last := some n, inFlight := y.inFlight + 1 } }))

/-- The confidence playout: STOPPED, it takes the lowest CHECKED segment as CONF_OUT at offset 0, or stays STOPPED; at
the end of its segment the slot becomes FREE and it looks again in the same way. The entry the freed record is linked to
has one segment less in flight, and with none left a VERIFYING entry retires with its outcome, unless the touch record
names it or its insertion runs. Offset 480 as the mark of an end that is due is the model's (log 8). -/
def Obligations.ConfidencePlayoutTakesLowestChecked : Prop :=
  ∀ s : State, ringPlaced s.dev →
    let takes := fun (before after : Device) =>
      (noneIn [.checked] before → after.ring.conf.running = false) ∧
      ∀ n r, heldIn .checked n before = some r → (∀ m, (heldIn .checked m before).isSome = true → n ≤ m) →
        after.ring.conf = { running := true, position := { segment := n, offset := 0 } } ∧
        held n after = some { r with state := .confOut
                                     subcode := if r.valid then r.subcode else before.decoder.confCarry } ∧
        after.decoder.confCarry = (if r.valid then r.subcode else before.decoder.confCarry)
    (s.dev.ring.conf.running = true → exec .confidencePlayoutStart s = .next s) ∧
    (s.dev.ring.conf.running = false → ∃ d : Device,
      exec .confidencePlayoutStart s = .next (s.withDev d) ∧ takes s.dev d ∧ d.edit = s.dev.edit ∧
      d.ring.play = s.dev.ring.play ∧ d.conceal = s.dev.conceal) ∧
    (s.dev.ring.conf.running = false ∨ s.dev.ring.conf.position.offset < 480 →
      exec .confidenceSegmentEnd s = .next s) ∧
    (∀ n r, s.dev.ring.conf = { running := true, position := { segment := n, offset := 480 } } →
      heldIn .confOut n s.dev = some r → ∃ d : Device, exec .confidenceSegmentEnd s = .next (s.withDev d) ∧
        slotOf n d = none ∧ takes s.dev d ∧ d.ring.play = s.dev.ring.play ∧
        (r.editLink = none → d.edit = s.dev.edit ∧ d.events = s.dev.events) ∧
        ∀ p e x, tablesShaped s.dev → r.editLink = some p → entryAt p s.dev = some e → e.result = some x →
          let lowered : EditResult := { x with inFlight := x.inFlight - 1 }
          let retires := e.state = .verifying ∧ x.inFlight ≤ 1 ∧ s.dev.edit.touch.insertion ≠ some p ∧
            p ∉ s.dev.edit.touch.marks ∧ s.dev.edit.insertion ≠ some p
          (¬ retires → entryAt p d = some { e with result := some lowered } ∧ d.events = s.dev.events) ∧
          (retires →
            let status := statusOf (e.outcome.getD .done)
            isLatched (.editRetired p e.poster e.post.tag status) d ∧
            ∃ e', entryAt p d = some e' ∧ e'.state = .retired ∧ e'.status = some status ∧ e'.result = some lowered ∧
              e'.post = e.post ∧ e'.poster = e.poster))

/-- The sealing of a fill: the Copy Gate decides by the accumulator, with COPY_REFUSED where it shuts and GATE_CHANGE
where the decision differs from the last, the subcode is VALID with its decision applied, the slot becomes ENCODING,
an idle encoder starts on the lowest ENCODING segment, and the next fill begins at offset 0. At segment 16,777,215 no
fill follows: the recorder is IDLE and the mode PLAY with cause NUMBER_LIMIT. Offset 480 as the mark of a seal that is
due is the model's (log 8). -/
def Obligations.RecordSealingDecidesAndEncodes : Prop :=
  ∀ (n : Nat) (r : Segment) (s : State), ringPlaced s.dev → s.dev.recorder.state = .filling →
    s.dev.recorder.fill = some { segment := n, offset := 480 } → n ≤ lastSegment →
    heldIn .fill n s.dev = some r →
    let shut := r.gate = some .spent ∨ r.gate = some .unknown
    ∃ (d : Device) (x : Subcode), exec .recordSealing s = .next (s.withDev d) ∧
      (n < lastSegment →
        d.recorder = { s.dev.recorder with fill := some { segment := n + 1, offset := 0 } } ∧ d.port = s.dev.port) ∧
      (n = lastSegment → d.recorder = { state := .idle, origin := none, fill := none, markOwed := false
                                        program := s.dev.recorder.program, fillOrigin := none } ∧
        d.port = { s.dev.port with mode := .play } ∧
        (tablesShaped s.dev → isLatched (.modeChange .play .numberLimit) d)) ∧
      (∃ r', held n d = some r' ∧ r'.state = .encoding ∧ r'.valid = true ∧ r'.subcode = some x ∧
        r'.decision = some (if shut then .shut else .opened) ∧
        r'.new = (if shut then some (List.replicate 480 (some silentPair)) else r.new)) ∧
      x.segment = n ∧ x.program = s.dev.recorder.program ∧ x.indexMark = r.indexRequest ∧ x.editOffset = none ∧
      x.wordLength = (cfg s.dev).wordLength ∧ x.station = (cfg s.dev).station ∧ x.label = (cfg s.dev).label ∧
      (shut → x.refused = true ∧ x.copy = .openCopy ∧ x.origin = .silence) ∧
      (¬ shut → x.refused = false ∧ x.copy = s.dev.gate.recordedRun.getD .openCopy ∧
        x.origin = s.dev.recorder.fillOrigin.getD .silence) ∧
      d.gate.lastDecision = (if shut then .shut else .opened) ∧
      (tablesShaped s.dev →
        (shut → isLatched (.copyRefused n .record (if r.gate = some .spent then .feedSpent else .feedUnknown)) d ∧
          (s.dev.gate.lastDecision ≠ .shut → isLatched (.gateChange .shut n .record) d)) ∧
        (¬ shut → kindStands (eventKind (.copyRefused n .record .feedSpent)) s.dev d ∧
          (s.dev.gate.lastDecision ≠ .opened → isLatched (.gateChange .opened n .record) d)) ∧
        (s.dev.gate.lastDecision = (if shut then .shut else .opened) →
          kindStands (eventKind (.gateChange .shut n .record)) s.dev d)) ∧
      d.encoder.inFlight ≠ none ∧ (s.dev.encoder.inFlight ≠ none → d.encoder = s.dev.encoder) ∧
      (s.dev.encoder.inFlight = none → encodesLowest s.dev d)

/-! ### Contexts and insertions -/

/-- The four ends of a context's hold, fade-out, recovery run and fade-in. A mute counts in MUTES and raises MUTE. The
fade step of 0 in the states that have no fade is the model's reading (log 23). -/
def Obligations.ContextsChangeAtTheirEnds : Prop :=
  ∀ (c : ContextId) (s : State),
    let x := contextOf c s.dev
    (x.state = .holding → (cfg s.dev).holdLimit < x.holdRun →
      exec (.holdLimitPassed c) s = .next (s.withDev
        (putContext c { x with state := .fadingOut, fadeStart := some 256, fadeStep := 0, holdRun := 0 } s.dev))) ∧
    (x.state = .fadingOut → 64 ≤ x.fadeStep → (∀ p, x.last = some p → 12 < s.dev.events.details.length →
      ∃ d : Device, exec (.mute c) s = .next (s.withDev d) ∧
        contextOf c d = { x with state := .muted, recoveryRun := 0, fadeStart := none, fadeStep := 0 } ∧
        (countersOf c.playback d).mutes = min 65535 ((countersOf c.playback s.dev).mutes + 1) ∧
        isLatched (.muted c.playback c.channel p.segment) d ∧ (∀ c', c' ≠ c → contextOf c' d = contextOf c' s.dev) ∧
        d.ring = s.dev.ring ∧ d.edit = s.dev.edit)) ∧
    (x.state = .muted → (cfg s.dev).recoveryCount ≤ x.recoveryRun →
      exec (.recoveryComplete c) s = .next (s.withDev
        (putContext c { x with state := .fadingIn, recoveryRun := 0, fadeStart := some 0, fadeStep := 0 } s.dev))) ∧
    (x.state = .fadingIn → 64 ≤ x.fadeStep → ∃ d : Device, exec (.fadeInComplete c) s = .next (s.withDev d) ∧
      (contextOf c d).state = .clean ∧ (contextOf c d).fadeStart = none ∧ (contextOf c d).gain = x.gain ∧
      (contextOf c d).history = x.history ∧ (∀ c', c' ≠ c → contextOf c' d = contextOf c' s.dev) ∧
      d.counters = s.dev.counters ∧ d.events = s.dev.events ∧ d.ring = s.dev.ring)

/-- The end of a fade-in: the phase is FULL and the fade absent. The end of a fade-out: gain 0, phase, fade and
insertion entry absent, the insertion entry no longer INSERTING and its fired PUNCH_OUT no longer PENDING. -/
def Obligations.InsertFadesEnd : Prop :=
  ∀ (f : Fade) (s : State), tablesShaped s.dev → s.dev.edit.fade = some f → f.length ≤ f.step →
    (s.dev.edit.phase = some .fadeIn → exec .insertFadeInEnd s =
      .next (s.withDev { s.dev with edit := { s.dev.edit with phase := some .full, fade := none } })) ∧
    (∀ p e, s.dev.edit.phase = some .fadeOut → s.dev.edit.insertion = some p → entryAt p s.dev = some e →
      p < 32 → e.state = .inserting →
      ∃ (d : Device) (e' : Entry), exec .insertFadeOutEnd s = .next (s.withDev d) ∧ d.edit.insertion = none ∧
        d.edit.phase = none ∧ d.edit.fade = none ∧ d.edit.gain = 0 ∧ d.edit.state ≠ .inserting ∧
        entryAt p d = some e' ∧ (e'.state = .verifying ∧ e'.outcome = e.outcome ∨ e'.state = .retired) ∧
        (∀ o x, firedOut s.dev = some o → entryAt o s.dev = some x →
          ∃ y, entryAt o d = some y ∧ y.state = .retired ∧ y.status = some .done) ∧
        d.ring = s.dev.ring ∧ d.edit.touch = s.dev.edit.touch)

/-! ### The link's counts -/

/-- A station in LISTEN whose wait has reached 128 + 16 × its number founds: ATTACHED, frame count 0, receiver IDLE.
The 64th frame of ALIGN ends it: ATTACHED with the receiver in SKIP on a dominant marker, LISTEN on a recessive one.
In a period, a station in LISTEN drives nothing and counts its wait, or enters ALIGN at a dominant marker; one whose
wait is reached founds and drives the marker; ALIGN counts its frames, and an early marker or a missing one leads back
to LISTEN. A misplaced marker is noted by an ATTACHED station, and in a second multiframe running it leaves for LISTEN
with the Slot Table cleared, which raises SLOT_LOST and CLAIM_RESULT with cause DETACHED (R154). -/
def Obligations.AttachmentFollowsMarkers : Prop :=
  (∀ s : State, 0 < s.dev.events.details.length →
    (s.dev.link.attachment = .listen → 128 + 16 * (cfg s.dev).station ≤ s.dev.link.listenWait →
      ∃ d : Device, exec .linkFounding s = .next (s.withDev d) ∧ d.link.attachment = .attached ∧
        d.link.frameCount = 0 ∧ d.link.receiver = .idle ∧ d.link.quiet = 0 ∧ d.link.yieldCount = 0 ∧
        d.link.echoRun = 0 ∧ isLatched (.linkState .attached .founded) d ∧ d.ring = s.dev.ring ∧
        d.gate = s.dev.gate) ∧
    (s.dev.link.attachment = .listen → s.dev.link.listenWait < 128 + 16 * (cfg s.dev).station →
      exec .linkFounding s = .next s) ∧
    (s.dev.link.attachment = .align → 63 ≤ s.dev.link.alignCount →
      (∃ d : Device, exec (.alignCountEnd true) s = .next (s.withDev d) ∧ d.link.attachment = .attached ∧
        d.link.frameCount = 0 ∧ d.link.receiver = .skip ∧ d.link.skipRun = 0 ∧
        isLatched (.linkState .attached .aligned) d ∧ d.ring = s.dev.ring) ∧
      exec (.alignCountEnd false) s = .next (s.withDev { withEvent (.linkState .listen .alignMissing) s.dev with
        link := { s.dev.link with attachment := .listen, listenWait := 0, alignCount := 64 } }))) ∧
  ∀ (w : Period) (s : State), deckRests s.dev → (cfg s.dev).linkMode = .normal →
    let period := exec (.wordReferencePeriod w) s
    let link := { s.dev.link with received := List.replicate 12 silentPair }
    (link.attachment = .listen → link.listenWait < 128 + 16 * (cfg s.dev).station →
      ∃ d : Device, period = .next (s.withDev d) ∧ d.outputs.driven = recessiveFrame ∧ d.table = s.dev.table ∧
        (w.frame.marker = false → d.link = { link with listenWait := min 240 (link.listenWait + 1) }) ∧
        (w.frame.marker = true → d.link = { link with attachment := .align, alignCount := 0 } ∧
          isLatched (.linkState .align .markerHeard) d)) ∧
    (link.attachment = .listen → 128 + 16 * (cfg s.dev).station ≤ link.listenWait → w.frame.marker = true →
      w.frame.message = false → ∃ d : Device, period = .next (s.withDev d) ∧ d.outputs.driven.marker = true ∧
        d.link.attachment = .attached ∧ d.link.frameCount = 1 ∧ d.link.receiver = .idle ∧ d.link.quiet = 1 ∧
        isLatched (.linkState .attached .founded) d) ∧
    (link.attachment = .align →
      ∃ d : Device, period = .next (s.withDev d) ∧ d.outputs.driven = recessiveFrame ∧
        (link.alignCount < 63 → w.frame.marker = false → d.link = { link with alignCount := link.alignCount + 1 }) ∧
        (link.alignCount < 63 → w.frame.marker = true →
          d.link = { link with attachment := .listen, listenWait := 0, alignCount := link.alignCount + 1 } ∧
          isLatched (.linkState .listen .alignEarly) d) ∧
        (63 ≤ link.alignCount → w.frame.marker = true → d.link.attachment = .attached ∧ d.link.frameCount = 1 ∧
          isLatched (.linkState .attached .aligned) d) ∧
        (63 ≤ link.alignCount → w.frame.marker = false → d.link.attachment = .listen ∧ d.link.listenWait = 0 ∧
          isLatched (.linkState .listen .alignMissing) d)) ∧
    (link.attachment = .attached → link.queue = [] → link.frameCount ≠ 0 → w.frame.marker = true →
      w.frame.message = false → ∃ d : Device, period = .next (s.withDev d) ∧
        (link.misplacedPrevious = false → d.link.attachment = .attached ∧ d.link.misplacedThis = true) ∧
        (link.misplacedPrevious = true → d.link.attachment = .listen ∧ d.link.listenWait = 0 ∧
          d.link.misplacedThis = false ∧ d.link.misplacedPrevious = false ∧ tableCleared s.dev d ∧
          isLatched (.linkState .listen .misaligned) d))

/-- SKIP ends at the 12th recessive bit in a row. A message with sixteen losses leaves the queue with MESSAGE_DROPPED: a
claim is REFUSED; a release leaves a slot still driven with no own release, and a slot stopped FREE with RELEASE_LOST; a
report counts as SENT, which empties its place at the tail. An echo run of 3 makes the station leave ATTACHED for LISTEN
with the Slot Table cleared, which raises SLOT_LOST and CLAIM_RESULT with cause DETACHED (R154). -/
def Obligations.SkipDropsAndEchoFaults : Prop :=
  ∀ s : State, s.dev.link.attachment = .attached → tablesShaped s.dev →
    (s.dev.link.receiver = .skip → 11 ≤ s.dev.link.skipRun →
      exec .skipEnd s = .next (s.withDev { s.dev with
        link := { s.dev.link with receiver := .idle, quiet := 0, skipRun := 0 } })) ∧
    (∀ m rest, s.dev.link.queue = m :: rest → 16 ≤ m.losses → m.origin = .refusalReport → nothingWaits s.dev →
      exec .messageDropped s = .next (s.withDev { withEvent (.messageDropped m.kind m.destination) s.dev with
        link := { s.dev.link with queue := rest } })) ∧
    (∀ m rest k, s.dev.link.queue = m :: rest → 16 ≤ m.losses → m.origin = .localClaim → nothingWaits s.dev →
      m.body = [BitVec.ofNat 8 k] → k ≤ 11 →
      exec .messageDropped s = .next (s.withDev
        { withEvent (.claimResult k (some .dropped)) (withEvent (.messageDropped m.kind m.destination) s.dev) with
          link := { s.dev.link with queue := rest }
          table := s.dev.table.set k { slotEntry k s.dev with ownClaim := false } })) ∧
    (∀ m rest k, s.dev.link.queue = m :: rest → 16 ≤ m.losses →
      (m.origin = .localRelease ∨ m.origin = .owedRelease) → nothingWaits s.dev → m.body = [BitVec.ofNat 8 k] → k ≤ 11 →
      let e := slotEntry k s.dev
      let dropped := withEvent (.messageDropped m.kind m.destination) s.dev
      (e.owner = some (cfg s.dev).station → e.drive = some .stopped → s.dev.chase.leadSlot ≠ some k →
        exec .messageDropped s = .next (s.withDev { withEvent (.slotChange k none .releaseLost) dropped with
          link := { s.dev.link with queue := rest }
          table := s.dev.table.set k SlotEntry.free
          gate := { s.dev.gate with relays := s.dev.gate.relays.set k Relay.empty } })) ∧
      (¬ (e.owner = some (cfg s.dev).station ∧ e.drive = some .stopped) →
        exec .messageDropped s = .next (s.withDev { dropped with
          link := { s.dev.link with queue := rest }
          table := s.dev.table.set k { e with ownRelease := .none_ } }))) ∧
    (∀ m rest p e, s.dev.link.queue = m :: rest → 16 ≤ m.losses → m.origin = .report p → nothingWaits s.dev →
      entryAt p s.dev = some e → ∃ d : Device, exec .messageDropped s = .next (s.withDev d) ∧
        d.link = { s.dev.link with queue := rest } ∧
        d.events = (withEvent (.messageDropped m.kind m.destination) s.dev).events ∧
        (∀ x, entryAt p d = some x → x.report = .sent) ∧
        (p = s.dev.edit.tail → e.state = .retired → entryAt p d = none) ∧
        (p = s.dev.edit.tail → e.state ≠ .retired → entryAt p d = some { e with report := .sent }) ∧
        d.table = s.dev.table ∧ d.ring = s.dev.ring) ∧
    (3 ≤ s.dev.link.echoRun → ∃ d : Device, exec .echoFaults s = .next (s.withDev d) ∧
      d.link.attachment = .listen ∧ d.link.listenWait = 0 ∧ d.link.echoRun = 0 ∧ d.link.yieldCount = 0 ∧
      d.link.receiver = .idle ∧ tableCleared s.dev d ∧
      (∀ m ∈ d.link.queue, m.kind ≠ 2 ∧ m.kind ≠ 3 ∧ m.sent = none) ∧
      isLatched (.linkState .listen .echoFaults) d ∧ d.ring = s.dev.ring)

/-- A double drive: after four failed words of a slot this station owns and drives, the drive is STOPPED with SLOT_LOST
and a release offered. A timeout: an absence of 2400 frames frees another station's slot. -/
def Obligations.DoubleDriveAndTimeout : Prop :=
  ∀ (k : Nat) (s : State), tablesShaped s.dev → k ≤ 11 →
    let e := slotEntry k s.dev
    (e.owner = some (cfg s.dev).station → e.drive = some .driving → 4 ≤ e.invalidRun →
      ∃ d : Device, exec (.doubleDrive k) s = .next (s.withDev d) ∧
        slotEntry k d = { e with
          drive := some .stopped,
          ownRelease := if e.ownRelease = .none_ then
              (if s.dev.link.attachment = .attached ∧ s.dev.link.queue.length < 8 then .queued else .owed)
            else e.ownRelease } ∧
        d.events = (withEvent (.slotLost k .doubleDrive) s.dev).events ∧ (relayOf k d).history = [] ∧
        (∀ j, j ≠ k → slotEntry j d = slotEntry j s.dev) ∧ d.ring = s.dev.ring ∧ d.chase = s.dev.chase) ∧
    (∀ p, e.owner = some p → p ≠ (cfg s.dev).station → 2400 ≤ e.absence → s.dev.chase.leadSlot ≠ some k →
      exec (.slotTimeout k) s = .next (s.withDev { withEvent (.slotChange k none .timeout) s.dev with
        table := s.dev.table.set k SlotEntry.free
        gate := { s.dev.gate with relays := s.dev.gate.relays.set k Relay.empty } }))

/-- A word gap of 512 takes a running chase into HOLDOVER with correction 0, wind NONE and lock run 0, keeping error,
lead word and lead owner; 4096 periods of holdover take it to OFF with every field at its reset value. -/
def Obligations.ChaseHoldsOverAndExpires : Prop :=
  ∀ s : State, 14 < s.dev.events.details.length →
    (chaseRunning s.dev.chase = true → 512 ≤ s.dev.chase.wordGap →
      ∃ d : Device, exec .leadSilent s = .next (s.withDev d) ∧
        d.chase = { s.dev.chase with
          state := .holdover, correction := 0, wind := .none_, lockRun := 0, holdoverCount := 0 } ∧
        isLatched (.chaseChange .holdover .leadSilent s.dev.chase.error) d ∧
        (s.dev.chase.state ≠ .locked → d.edit = s.dev.edit) ∧ d.link = s.dev.link ∧ d.ring = s.dev.ring) ∧
    (s.dev.chase.state = .holdover → 4096 ≤ s.dev.chase.holdoverCount →
      exec .holdoverExpiry s = .next (s.withDev
        { withEvent (.chaseChange .off .expired none) s.dev with chase := Chase.initial }))

/-- A free place of the queue is filled with the lowest owed release, else with the WAITING report nearest the tail;
where nothing waits, or no place is free, nothing changes. -/
def Obligations.QueuePlaceTakesOwedReleaseFirst : Prop :=
  ∀ s : State,
    (s.dev.link.attachment ≠ .attached ∨ 8 ≤ s.dev.link.queue.length ∨ nothingWaits s.dev →
      exec .queuePlaceFill s = .next s) ∧
    (s.dev.link.attachment = .attached → s.dev.link.queue.length < 8 →
      (∀ k, k ≤ 11 → (slotEntry k s.dev).ownRelease = .owed →
        (∀ j, j < k → (slotEntry j s.dev).ownRelease ≠ .owed) →
        exec .queuePlaceFill s = .next (s.withDev { s.dev with
          table := s.dev.table.set k { slotEntry k s.dev with ownRelease := .queued }
          link := { s.dev.link with queue := joinQueue (ownSlotMessage 3 k .owedRelease) s.dev.link.queue } })) ∧
      ((∀ k, (slotEntry k s.dev).ownRelease ≠ .owed) → ∀ p e n, waitingReport s.dev = some p →
        entryAt p s.dev = some e → e.poster = .station n →
        ∃ d : Device, exec .queuePlaceFill s = .next (s.withDev d) ∧
          d.link.queue = s.dev.link.queue ++
            [{ kind := 10, destination := n, body := reportBody e, losses := 0, origin := .report p, sent := none }] ∧
          (p < s.dev.edit.places.length → entryAt p d = some { e with report := .queued }) ∧
          d.table = s.dev.table ∧ d.ring = s.dev.ring))

/-! ### Words and layouts -/

/-- Requantization: the unsaturated result, the feedback and the generator of each mode, with two draws of the top bits
for TRIANGULAR and SHAPED, r1 first; the SHAPED feedback stays below two steps. The written word is the result saturated
to full scale, and each channel uses its own feedback. -/
def Obligations.RequantizationFollowsModes : Prop :=
  ∀ (length : Nat) (x e : Int) (g : BitVec 32), (length = 16 ∨ length = 20) →
    let q : Int := if length = 16 then 256 else 16
    let s := 24 - length
    let g1 := g * 1664525#32 + 1013904223#32
    let g2 := g1 * 1664525#32 + 1013904223#32
    let r1 : Int := ((g1.toNat >>> (32 - s) : Nat) : Int)
    let r2 : Int := ((g2.toNat >>> (32 - s) : Nat) : Int)
    let v := x - e
    requantize .truncate length x e g = (Int.fdiv x q * q, e, g) ∧
    requantize .round length x e g = (Int.fdiv (x + Int.fdiv q 2) q * q, e, g) ∧
    requantize .triangular length x e g = (Int.fdiv (x + r1 - r2) q * q, e, g2) ∧
    requantize .shaped length x e g =
      (Int.fdiv (v + r1 - r2) q * q, Int.fdiv (v + r1 - r2) q * q - v, g2) ∧
    ((requantize .shaped length x e g).2.1).natAbs < 2 * q.natAbs ∧ -(q - 1) ≤ r1 - r2 ∧ r1 - r2 ≤ q - 1 ∧
    (∀ y, fullScale length y = max (-8388608) (min (if length = 16 then 8388352 else 8388592) y)) ∧
    ∀ (mode : Requant) (p : Pair) (z : Requantizer),
      let l := requantize mode length p.left.toInt z.left z.generator
      let r := requantize mode length p.right.toInt z.right l.2.2
      requantizePair mode length p z =
        ({ left := BitVec.ofInt 24 (fullScale length l.1), right := BitVec.ofInt 24 (fullScale length r.1) },
         { left := l.2.1, right := r.2.1, generator := r.2.2 })

/-- Encoding and decoding of a stripe agree: the encoder's 38 blocks, read without damage, give back exactly the 480
samples the encoder took, each GOOD, leave the other stripe's samples alone, and carry the subcode record. The finding
that a block is sound is an operand (log 5), and the check and parity octets are free values (log 6). -/
def Obligations.StripeDecodesToItsSamples : Prop :=
  ∀ (h : Head) (pairs : List Pair) (x : Subcode) (audio : List OldPair), pairs.length = 480 → audio.length = 480 →
    subcodeInRange x →
    let blocks := (makeStripe h pairs x).map cleanBlock
    blocks.length = 38 ∧ stripeSubcode blocks = some x ∧
    decodeTally blocks = { mended := 0, recovered := 0, lost := 0 } ∧
    ∀ (i : Nat) (p : Pair) (o : OldPair), pairs[i]? = some p → audio[i]? = some o →
      (writeStripe h blocks audio)[i]? = some (if (i % 2 = 0 ↔ h = .a)
        then { o with left := { value := p.left, good := true, mark := none } }
        else { o with right := { value := p.right, good := true, mark := none } })

/-- Encoding and decoding of a status word and of a message agree: each passes its check and carries every field. -/
def Obligations.WordsAndMessagesReadBack : Prop :=
  (∀ w : StatusWord, w.owner ≤ 7 → w.position.segment ≤ lastSegment → w.position.offset ≤ 479 →
    validWord (makeWord w) = true ∧ readWord (makeWord w) = w) ∧
  ∀ (station : Nat) (m : Queued), station ≤ 7 → messageInRange m →
    (messageBits station m).length = 30 + 8 * m.body.length ∧ messagePasses (messageBits station m) = true ∧
    readMessage (messageBits station m) =
      (m.kind, { destination := m.destination, source := station, body := m.body })

/-- The derived status of a period: LINE_IN keeps the original status; any other source derives one step more
restrictive, OPEN staying OPEN, and SPENT and UNKNOWN are refusals. -/
def Obligations.DerivedStatusTable : Prop :=
  (∀ st, derived .lineIn st = some st) ∧ derived .silence .openCopy = some .openCopy ∧
  ∀ k, derived (.linkRx k) .openCopy = some .openCopy ∧ derived (.linkRx k) .counted3 = some .counted2 ∧
    derived (.linkRx k) .counted2 = some .counted1 ∧ derived (.linkRx k) .counted1 = some .spent ∧
    derived (.linkRx k) .spent = none ∧ derived (.linkRx k) .unknown = none

/-! ### Invariants -/

/-- Every step keeps the shape of the ring and of the tables: a slot holds only a segment whose number is congruent to
it. -/
def Obligations.EveryStepKeepsTheShape : Prop :=
  ∀ s t : State, shaped s.dev → step s = .next t → shaped t.dev

/-- Every step keeps the recorder IDLE outside RECORD mode, and both queues within their sizes. -/
def Obligations.EveryStepKeepsRecorderAndQueues : Prop :=
  ∀ s t : State, (recorderFollowsMode s.dev ∧ queuesBounded s.dev) → step s = .next t →
    (recorderFollowsMode t.dev ∧ queuesBounded t.dev)

/-- After reset the invariants hold. -/
def Obligations.ResetSatisfiesInvariants : Prop :=
  shaped State.reset.dev ∧ recorderFollowsMode State.reset.dev ∧ queuesBounded State.reset.dev

end Statements
end

