-- ==== Sys2Proof/Laws/State.lean ====
section
/-! SUPPORT. The update of one block of the device: what each block holds after it. -/

namespace Sys2Proof.Laws

open Sys2Proof Sys2Proof.Machine

@[simp] theorem setResetHeld_resetHeld (x : Bool) (d : Device) : (d.setResetHeld x).resetHeld = x := rfl
@[simp] theorem setResetHeld_config (x : Bool) (d : Device) : (d.setResetHeld x).config = d.config := rfl
@[simp] theorem setResetHeld_port (x : Bool) (d : Device) : (d.setResetHeld x).port = d.port := rfl
@[simp] theorem setResetHeld_events (x : Bool) (d : Device) : (d.setResetHeld x).events = d.events := rfl
@[simp] theorem setResetHeld_ring (x : Bool) (d : Device) : (d.setResetHeld x).ring = d.ring := rfl
@[simp] theorem setResetHeld_recorder (x : Bool) (d : Device) : (d.setResetHeld x).recorder = d.recorder := rfl
@[simp] theorem setResetHeld_encoder (x : Bool) (d : Device) : (d.setResetHeld x).encoder = d.encoder := rfl
@[simp] theorem setResetHeld_decoder (x : Bool) (d : Device) : (d.setResetHeld x).decoder = d.decoder := rfl
@[simp] theorem setResetHeld_search (x : Bool) (d : Device) : (d.setResetHeld x).search = d.search := rfl
@[simp] theorem setResetHeld_conceal (x : Bool) (d : Device) : (d.setResetHeld x).conceal = d.conceal := rfl
@[simp] theorem setResetHeld_counters (x : Bool) (d : Device) : (d.setResetHeld x).counters = d.counters := rfl
@[simp] theorem setResetHeld_edit (x : Bool) (d : Device) : (d.setResetHeld x).edit = d.edit := rfl
@[simp] theorem setResetHeld_gate (x : Bool) (d : Device) : (d.setResetHeld x).gate = d.gate := rfl
@[simp] theorem setResetHeld_router (x : Bool) (d : Device) : (d.setResetHeld x).router = d.router := rfl
@[simp] theorem setResetHeld_link (x : Bool) (d : Device) : (d.setResetHeld x).link = d.link := rfl
@[simp] theorem setResetHeld_table (x : Bool) (d : Device) : (d.setResetHeld x).table = d.table := rfl
@[simp] theorem setResetHeld_chase (x : Bool) (d : Device) : (d.setResetHeld x).chase = d.chase := rfl
@[simp] theorem setResetHeld_outputs (x : Bool) (d : Device) : (d.setResetHeld x).outputs = d.outputs := rfl
@[simp] theorem setConfig_resetHeld (x : Option Configuration) (d : Device) : (d.setConfig x).resetHeld = d.resetHeld := rfl
@[simp] theorem setConfig_config (x : Option Configuration) (d : Device) : (d.setConfig x).config = x := rfl
@[simp] theorem setConfig_port (x : Option Configuration) (d : Device) : (d.setConfig x).port = d.port := rfl
@[simp] theorem setConfig_events (x : Option Configuration) (d : Device) : (d.setConfig x).events = d.events := rfl
@[simp] theorem setConfig_ring (x : Option Configuration) (d : Device) : (d.setConfig x).ring = d.ring := rfl
@[simp] theorem setConfig_recorder (x : Option Configuration) (d : Device) : (d.setConfig x).recorder = d.recorder := rfl
@[simp] theorem setConfig_encoder (x : Option Configuration) (d : Device) : (d.setConfig x).encoder = d.encoder := rfl
@[simp] theorem setConfig_decoder (x : Option Configuration) (d : Device) : (d.setConfig x).decoder = d.decoder := rfl
@[simp] theorem setConfig_search (x : Option Configuration) (d : Device) : (d.setConfig x).search = d.search := rfl
@[simp] theorem setConfig_conceal (x : Option Configuration) (d : Device) : (d.setConfig x).conceal = d.conceal := rfl
@[simp] theorem setConfig_counters (x : Option Configuration) (d : Device) : (d.setConfig x).counters = d.counters := rfl
@[simp] theorem setConfig_edit (x : Option Configuration) (d : Device) : (d.setConfig x).edit = d.edit := rfl
@[simp] theorem setConfig_gate (x : Option Configuration) (d : Device) : (d.setConfig x).gate = d.gate := rfl
@[simp] theorem setConfig_router (x : Option Configuration) (d : Device) : (d.setConfig x).router = d.router := rfl
@[simp] theorem setConfig_link (x : Option Configuration) (d : Device) : (d.setConfig x).link = d.link := rfl
@[simp] theorem setConfig_table (x : Option Configuration) (d : Device) : (d.setConfig x).table = d.table := rfl
@[simp] theorem setConfig_chase (x : Option Configuration) (d : Device) : (d.setConfig x).chase = d.chase := rfl
@[simp] theorem setConfig_outputs (x : Option Configuration) (d : Device) : (d.setConfig x).outputs = d.outputs := rfl
@[simp] theorem setPort_resetHeld (x : Port) (d : Device) : (d.setPort x).resetHeld = d.resetHeld := rfl
@[simp] theorem setPort_config (x : Port) (d : Device) : (d.setPort x).config = d.config := rfl
@[simp] theorem setPort_port (x : Port) (d : Device) : (d.setPort x).port = x := rfl
@[simp] theorem setPort_events (x : Port) (d : Device) : (d.setPort x).events = d.events := rfl
@[simp] theorem setPort_ring (x : Port) (d : Device) : (d.setPort x).ring = d.ring := rfl
@[simp] theorem setPort_recorder (x : Port) (d : Device) : (d.setPort x).recorder = d.recorder := rfl
@[simp] theorem setPort_encoder (x : Port) (d : Device) : (d.setPort x).encoder = d.encoder := rfl
@[simp] theorem setPort_decoder (x : Port) (d : Device) : (d.setPort x).decoder = d.decoder := rfl
@[simp] theorem setPort_search (x : Port) (d : Device) : (d.setPort x).search = d.search := rfl
@[simp] theorem setPort_conceal (x : Port) (d : Device) : (d.setPort x).conceal = d.conceal := rfl
@[simp] theorem setPort_counters (x : Port) (d : Device) : (d.setPort x).counters = d.counters := rfl
@[simp] theorem setPort_edit (x : Port) (d : Device) : (d.setPort x).edit = d.edit := rfl
@[simp] theorem setPort_gate (x : Port) (d : Device) : (d.setPort x).gate = d.gate := rfl
@[simp] theorem setPort_router (x : Port) (d : Device) : (d.setPort x).router = d.router := rfl
@[simp] theorem setPort_link (x : Port) (d : Device) : (d.setPort x).link = d.link := rfl
@[simp] theorem setPort_table (x : Port) (d : Device) : (d.setPort x).table = d.table := rfl
@[simp] theorem setPort_chase (x : Port) (d : Device) : (d.setPort x).chase = d.chase := rfl
@[simp] theorem setPort_outputs (x : Port) (d : Device) : (d.setPort x).outputs = d.outputs := rfl
@[simp] theorem setEvents_resetHeld (x : Events) (d : Device) : (d.setEvents x).resetHeld = d.resetHeld := rfl
@[simp] theorem setEvents_config (x : Events) (d : Device) : (d.setEvents x).config = d.config := rfl
@[simp] theorem setEvents_port (x : Events) (d : Device) : (d.setEvents x).port = d.port := rfl
@[simp] theorem setEvents_events (x : Events) (d : Device) : (d.setEvents x).events = x := rfl
@[simp] theorem setEvents_ring (x : Events) (d : Device) : (d.setEvents x).ring = d.ring := rfl
@[simp] theorem setEvents_recorder (x : Events) (d : Device) : (d.setEvents x).recorder = d.recorder := rfl
@[simp] theorem setEvents_encoder (x : Events) (d : Device) : (d.setEvents x).encoder = d.encoder := rfl
@[simp] theorem setEvents_decoder (x : Events) (d : Device) : (d.setEvents x).decoder = d.decoder := rfl
@[simp] theorem setEvents_search (x : Events) (d : Device) : (d.setEvents x).search = d.search := rfl
@[simp] theorem setEvents_conceal (x : Events) (d : Device) : (d.setEvents x).conceal = d.conceal := rfl
@[simp] theorem setEvents_counters (x : Events) (d : Device) : (d.setEvents x).counters = d.counters := rfl
@[simp] theorem setEvents_edit (x : Events) (d : Device) : (d.setEvents x).edit = d.edit := rfl
@[simp] theorem setEvents_gate (x : Events) (d : Device) : (d.setEvents x).gate = d.gate := rfl
@[simp] theorem setEvents_router (x : Events) (d : Device) : (d.setEvents x).router = d.router := rfl
@[simp] theorem setEvents_link (x : Events) (d : Device) : (d.setEvents x).link = d.link := rfl
@[simp] theorem setEvents_table (x : Events) (d : Device) : (d.setEvents x).table = d.table := rfl
@[simp] theorem setEvents_chase (x : Events) (d : Device) : (d.setEvents x).chase = d.chase := rfl
@[simp] theorem setEvents_outputs (x : Events) (d : Device) : (d.setEvents x).outputs = d.outputs := rfl
@[simp] theorem setRing_resetHeld (x : Ring) (d : Device) : (d.setRing x).resetHeld = d.resetHeld := rfl
@[simp] theorem setRing_config (x : Ring) (d : Device) : (d.setRing x).config = d.config := rfl
@[simp] theorem setRing_port (x : Ring) (d : Device) : (d.setRing x).port = d.port := rfl
@[simp] theorem setRing_events (x : Ring) (d : Device) : (d.setRing x).events = d.events := rfl
@[simp] theorem setRing_ring (x : Ring) (d : Device) : (d.setRing x).ring = x := rfl
@[simp] theorem setRing_recorder (x : Ring) (d : Device) : (d.setRing x).recorder = d.recorder := rfl
@[simp] theorem setRing_encoder (x : Ring) (d : Device) : (d.setRing x).encoder = d.encoder := rfl
@[simp] theorem setRing_decoder (x : Ring) (d : Device) : (d.setRing x).decoder = d.decoder := rfl
@[simp] theorem setRing_search (x : Ring) (d : Device) : (d.setRing x).search = d.search := rfl
@[simp] theorem setRing_conceal (x : Ring) (d : Device) : (d.setRing x).conceal = d.conceal := rfl
@[simp] theorem setRing_counters (x : Ring) (d : Device) : (d.setRing x).counters = d.counters := rfl
@[simp] theorem setRing_edit (x : Ring) (d : Device) : (d.setRing x).edit = d.edit := rfl
@[simp] theorem setRing_gate (x : Ring) (d : Device) : (d.setRing x).gate = d.gate := rfl
@[simp] theorem setRing_router (x : Ring) (d : Device) : (d.setRing x).router = d.router := rfl
@[simp] theorem setRing_link (x : Ring) (d : Device) : (d.setRing x).link = d.link := rfl
@[simp] theorem setRing_table (x : Ring) (d : Device) : (d.setRing x).table = d.table := rfl
@[simp] theorem setRing_chase (x : Ring) (d : Device) : (d.setRing x).chase = d.chase := rfl
@[simp] theorem setRing_outputs (x : Ring) (d : Device) : (d.setRing x).outputs = d.outputs := rfl
@[simp] theorem setRecorder_resetHeld (x : Recorder) (d : Device) : (d.setRecorder x).resetHeld = d.resetHeld := rfl
@[simp] theorem setRecorder_config (x : Recorder) (d : Device) : (d.setRecorder x).config = d.config := rfl
@[simp] theorem setRecorder_port (x : Recorder) (d : Device) : (d.setRecorder x).port = d.port := rfl
@[simp] theorem setRecorder_events (x : Recorder) (d : Device) : (d.setRecorder x).events = d.events := rfl
@[simp] theorem setRecorder_ring (x : Recorder) (d : Device) : (d.setRecorder x).ring = d.ring := rfl
@[simp] theorem setRecorder_recorder (x : Recorder) (d : Device) : (d.setRecorder x).recorder = x := rfl
@[simp] theorem setRecorder_encoder (x : Recorder) (d : Device) : (d.setRecorder x).encoder = d.encoder := rfl
@[simp] theorem setRecorder_decoder (x : Recorder) (d : Device) : (d.setRecorder x).decoder = d.decoder := rfl
@[simp] theorem setRecorder_search (x : Recorder) (d : Device) : (d.setRecorder x).search = d.search := rfl
@[simp] theorem setRecorder_conceal (x : Recorder) (d : Device) : (d.setRecorder x).conceal = d.conceal := rfl
@[simp] theorem setRecorder_counters (x : Recorder) (d : Device) : (d.setRecorder x).counters = d.counters := rfl
@[simp] theorem setRecorder_edit (x : Recorder) (d : Device) : (d.setRecorder x).edit = d.edit := rfl
@[simp] theorem setRecorder_gate (x : Recorder) (d : Device) : (d.setRecorder x).gate = d.gate := rfl
@[simp] theorem setRecorder_router (x : Recorder) (d : Device) : (d.setRecorder x).router = d.router := rfl
@[simp] theorem setRecorder_link (x : Recorder) (d : Device) : (d.setRecorder x).link = d.link := rfl
@[simp] theorem setRecorder_table (x : Recorder) (d : Device) : (d.setRecorder x).table = d.table := rfl
@[simp] theorem setRecorder_chase (x : Recorder) (d : Device) : (d.setRecorder x).chase = d.chase := rfl
@[simp] theorem setRecorder_outputs (x : Recorder) (d : Device) : (d.setRecorder x).outputs = d.outputs := rfl
@[simp] theorem setEncoder_resetHeld (x : Encoder) (d : Device) : (d.setEncoder x).resetHeld = d.resetHeld := rfl
@[simp] theorem setEncoder_config (x : Encoder) (d : Device) : (d.setEncoder x).config = d.config := rfl
@[simp] theorem setEncoder_port (x : Encoder) (d : Device) : (d.setEncoder x).port = d.port := rfl
@[simp] theorem setEncoder_events (x : Encoder) (d : Device) : (d.setEncoder x).events = d.events := rfl
@[simp] theorem setEncoder_ring (x : Encoder) (d : Device) : (d.setEncoder x).ring = d.ring := rfl
@[simp] theorem setEncoder_recorder (x : Encoder) (d : Device) : (d.setEncoder x).recorder = d.recorder := rfl
@[simp] theorem setEncoder_encoder (x : Encoder) (d : Device) : (d.setEncoder x).encoder = x := rfl
@[simp] theorem setEncoder_decoder (x : Encoder) (d : Device) : (d.setEncoder x).decoder = d.decoder := rfl
@[simp] theorem setEncoder_search (x : Encoder) (d : Device) : (d.setEncoder x).search = d.search := rfl
@[simp] theorem setEncoder_conceal (x : Encoder) (d : Device) : (d.setEncoder x).conceal = d.conceal := rfl
@[simp] theorem setEncoder_counters (x : Encoder) (d : Device) : (d.setEncoder x).counters = d.counters := rfl
@[simp] theorem setEncoder_edit (x : Encoder) (d : Device) : (d.setEncoder x).edit = d.edit := rfl
@[simp] theorem setEncoder_gate (x : Encoder) (d : Device) : (d.setEncoder x).gate = d.gate := rfl
@[simp] theorem setEncoder_router (x : Encoder) (d : Device) : (d.setEncoder x).router = d.router := rfl
@[simp] theorem setEncoder_link (x : Encoder) (d : Device) : (d.setEncoder x).link = d.link := rfl
@[simp] theorem setEncoder_table (x : Encoder) (d : Device) : (d.setEncoder x).table = d.table := rfl
@[simp] theorem setEncoder_chase (x : Encoder) (d : Device) : (d.setEncoder x).chase = d.chase := rfl
@[simp] theorem setEncoder_outputs (x : Encoder) (d : Device) : (d.setEncoder x).outputs = d.outputs := rfl
@[simp] theorem setDecoder_resetHeld (x : Decoder) (d : Device) : (d.setDecoder x).resetHeld = d.resetHeld := rfl
@[simp] theorem setDecoder_config (x : Decoder) (d : Device) : (d.setDecoder x).config = d.config := rfl
@[simp] theorem setDecoder_port (x : Decoder) (d : Device) : (d.setDecoder x).port = d.port := rfl
@[simp] theorem setDecoder_events (x : Decoder) (d : Device) : (d.setDecoder x).events = d.events := rfl
@[simp] theorem setDecoder_ring (x : Decoder) (d : Device) : (d.setDecoder x).ring = d.ring := rfl
@[simp] theorem setDecoder_recorder (x : Decoder) (d : Device) : (d.setDecoder x).recorder = d.recorder := rfl
@[simp] theorem setDecoder_encoder (x : Decoder) (d : Device) : (d.setDecoder x).encoder = d.encoder := rfl
@[simp] theorem setDecoder_decoder (x : Decoder) (d : Device) : (d.setDecoder x).decoder = x := rfl
@[simp] theorem setDecoder_search (x : Decoder) (d : Device) : (d.setDecoder x).search = d.search := rfl
@[simp] theorem setDecoder_conceal (x : Decoder) (d : Device) : (d.setDecoder x).conceal = d.conceal := rfl
@[simp] theorem setDecoder_counters (x : Decoder) (d : Device) : (d.setDecoder x).counters = d.counters := rfl
@[simp] theorem setDecoder_edit (x : Decoder) (d : Device) : (d.setDecoder x).edit = d.edit := rfl
@[simp] theorem setDecoder_gate (x : Decoder) (d : Device) : (d.setDecoder x).gate = d.gate := rfl
@[simp] theorem setDecoder_router (x : Decoder) (d : Device) : (d.setDecoder x).router = d.router := rfl
@[simp] theorem setDecoder_link (x : Decoder) (d : Device) : (d.setDecoder x).link = d.link := rfl
@[simp] theorem setDecoder_table (x : Decoder) (d : Device) : (d.setDecoder x).table = d.table := rfl
@[simp] theorem setDecoder_chase (x : Decoder) (d : Device) : (d.setDecoder x).chase = d.chase := rfl
@[simp] theorem setDecoder_outputs (x : Decoder) (d : Device) : (d.setDecoder x).outputs = d.outputs := rfl
@[simp] theorem setSearch_resetHeld (x : Search) (d : Device) : (d.setSearch x).resetHeld = d.resetHeld := rfl
@[simp] theorem setSearch_config (x : Search) (d : Device) : (d.setSearch x).config = d.config := rfl
@[simp] theorem setSearch_port (x : Search) (d : Device) : (d.setSearch x).port = d.port := rfl
@[simp] theorem setSearch_events (x : Search) (d : Device) : (d.setSearch x).events = d.events := rfl
@[simp] theorem setSearch_ring (x : Search) (d : Device) : (d.setSearch x).ring = d.ring := rfl
@[simp] theorem setSearch_recorder (x : Search) (d : Device) : (d.setSearch x).recorder = d.recorder := rfl
@[simp] theorem setSearch_encoder (x : Search) (d : Device) : (d.setSearch x).encoder = d.encoder := rfl
@[simp] theorem setSearch_decoder (x : Search) (d : Device) : (d.setSearch x).decoder = d.decoder := rfl
@[simp] theorem setSearch_search (x : Search) (d : Device) : (d.setSearch x).search = x := rfl
@[simp] theorem setSearch_conceal (x : Search) (d : Device) : (d.setSearch x).conceal = d.conceal := rfl
@[simp] theorem setSearch_counters (x : Search) (d : Device) : (d.setSearch x).counters = d.counters := rfl
@[simp] theorem setSearch_edit (x : Search) (d : Device) : (d.setSearch x).edit = d.edit := rfl
@[simp] theorem setSearch_gate (x : Search) (d : Device) : (d.setSearch x).gate = d.gate := rfl
@[simp] theorem setSearch_router (x : Search) (d : Device) : (d.setSearch x).router = d.router := rfl
@[simp] theorem setSearch_link (x : Search) (d : Device) : (d.setSearch x).link = d.link := rfl
@[simp] theorem setSearch_table (x : Search) (d : Device) : (d.setSearch x).table = d.table := rfl
@[simp] theorem setSearch_chase (x : Search) (d : Device) : (d.setSearch x).chase = d.chase := rfl
@[simp] theorem setSearch_outputs (x : Search) (d : Device) : (d.setSearch x).outputs = d.outputs := rfl
@[simp] theorem setConceal_resetHeld (x : Conceal) (d : Device) : (d.setConceal x).resetHeld = d.resetHeld := rfl
@[simp] theorem setConceal_config (x : Conceal) (d : Device) : (d.setConceal x).config = d.config := rfl
@[simp] theorem setConceal_port (x : Conceal) (d : Device) : (d.setConceal x).port = d.port := rfl
@[simp] theorem setConceal_events (x : Conceal) (d : Device) : (d.setConceal x).events = d.events := rfl
@[simp] theorem setConceal_ring (x : Conceal) (d : Device) : (d.setConceal x).ring = d.ring := rfl
@[simp] theorem setConceal_recorder (x : Conceal) (d : Device) : (d.setConceal x).recorder = d.recorder := rfl
@[simp] theorem setConceal_encoder (x : Conceal) (d : Device) : (d.setConceal x).encoder = d.encoder := rfl
@[simp] theorem setConceal_decoder (x : Conceal) (d : Device) : (d.setConceal x).decoder = d.decoder := rfl
@[simp] theorem setConceal_search (x : Conceal) (d : Device) : (d.setConceal x).search = d.search := rfl
@[simp] theorem setConceal_conceal (x : Conceal) (d : Device) : (d.setConceal x).conceal = x := rfl
@[simp] theorem setConceal_counters (x : Conceal) (d : Device) : (d.setConceal x).counters = d.counters := rfl
@[simp] theorem setConceal_edit (x : Conceal) (d : Device) : (d.setConceal x).edit = d.edit := rfl
@[simp] theorem setConceal_gate (x : Conceal) (d : Device) : (d.setConceal x).gate = d.gate := rfl
@[simp] theorem setConceal_router (x : Conceal) (d : Device) : (d.setConceal x).router = d.router := rfl
@[simp] theorem setConceal_link (x : Conceal) (d : Device) : (d.setConceal x).link = d.link := rfl
@[simp] theorem setConceal_table (x : Conceal) (d : Device) : (d.setConceal x).table = d.table := rfl
@[simp] theorem setConceal_chase (x : Conceal) (d : Device) : (d.setConceal x).chase = d.chase := rfl
@[simp] theorem setConceal_outputs (x : Conceal) (d : Device) : (d.setConceal x).outputs = d.outputs := rfl
@[simp] theorem setCounters_resetHeld (x : Counters) (d : Device) : (d.setCounters x).resetHeld = d.resetHeld := rfl
@[simp] theorem setCounters_config (x : Counters) (d : Device) : (d.setCounters x).config = d.config := rfl
@[simp] theorem setCounters_port (x : Counters) (d : Device) : (d.setCounters x).port = d.port := rfl
@[simp] theorem setCounters_events (x : Counters) (d : Device) : (d.setCounters x).events = d.events := rfl
@[simp] theorem setCounters_ring (x : Counters) (d : Device) : (d.setCounters x).ring = d.ring := rfl
@[simp] theorem setCounters_recorder (x : Counters) (d : Device) : (d.setCounters x).recorder = d.recorder := rfl
@[simp] theorem setCounters_encoder (x : Counters) (d : Device) : (d.setCounters x).encoder = d.encoder := rfl
@[simp] theorem setCounters_decoder (x : Counters) (d : Device) : (d.setCounters x).decoder = d.decoder := rfl
@[simp] theorem setCounters_search (x : Counters) (d : Device) : (d.setCounters x).search = d.search := rfl
@[simp] theorem setCounters_conceal (x : Counters) (d : Device) : (d.setCounters x).conceal = d.conceal := rfl
@[simp] theorem setCounters_counters (x : Counters) (d : Device) : (d.setCounters x).counters = x := rfl
@[simp] theorem setCounters_edit (x : Counters) (d : Device) : (d.setCounters x).edit = d.edit := rfl
@[simp] theorem setCounters_gate (x : Counters) (d : Device) : (d.setCounters x).gate = d.gate := rfl
@[simp] theorem setCounters_router (x : Counters) (d : Device) : (d.setCounters x).router = d.router := rfl
@[simp] theorem setCounters_link (x : Counters) (d : Device) : (d.setCounters x).link = d.link := rfl
@[simp] theorem setCounters_table (x : Counters) (d : Device) : (d.setCounters x).table = d.table := rfl
@[simp] theorem setCounters_chase (x : Counters) (d : Device) : (d.setCounters x).chase = d.chase := rfl
@[simp] theorem setCounters_outputs (x : Counters) (d : Device) : (d.setCounters x).outputs = d.outputs := rfl
@[simp] theorem setEdit_resetHeld (x : Edit) (d : Device) : (d.setEdit x).resetHeld = d.resetHeld := rfl
@[simp] theorem setEdit_config (x : Edit) (d : Device) : (d.setEdit x).config = d.config := rfl
@[simp] theorem setEdit_port (x : Edit) (d : Device) : (d.setEdit x).port = d.port := rfl
@[simp] theorem setEdit_events (x : Edit) (d : Device) : (d.setEdit x).events = d.events := rfl
@[simp] theorem setEdit_ring (x : Edit) (d : Device) : (d.setEdit x).ring = d.ring := rfl
@[simp] theorem setEdit_recorder (x : Edit) (d : Device) : (d.setEdit x).recorder = d.recorder := rfl
@[simp] theorem setEdit_encoder (x : Edit) (d : Device) : (d.setEdit x).encoder = d.encoder := rfl
@[simp] theorem setEdit_decoder (x : Edit) (d : Device) : (d.setEdit x).decoder = d.decoder := rfl
@[simp] theorem setEdit_search (x : Edit) (d : Device) : (d.setEdit x).search = d.search := rfl
@[simp] theorem setEdit_conceal (x : Edit) (d : Device) : (d.setEdit x).conceal = d.conceal := rfl
@[simp] theorem setEdit_counters (x : Edit) (d : Device) : (d.setEdit x).counters = d.counters := rfl
@[simp] theorem setEdit_edit (x : Edit) (d : Device) : (d.setEdit x).edit = x := rfl
@[simp] theorem setEdit_gate (x : Edit) (d : Device) : (d.setEdit x).gate = d.gate := rfl
@[simp] theorem setEdit_router (x : Edit) (d : Device) : (d.setEdit x).router = d.router := rfl
@[simp] theorem setEdit_link (x : Edit) (d : Device) : (d.setEdit x).link = d.link := rfl
@[simp] theorem setEdit_table (x : Edit) (d : Device) : (d.setEdit x).table = d.table := rfl
@[simp] theorem setEdit_chase (x : Edit) (d : Device) : (d.setEdit x).chase = d.chase := rfl
@[simp] theorem setEdit_outputs (x : Edit) (d : Device) : (d.setEdit x).outputs = d.outputs := rfl
@[simp] theorem setGate_resetHeld (x : Gate) (d : Device) : (d.setGate x).resetHeld = d.resetHeld := rfl
@[simp] theorem setGate_config (x : Gate) (d : Device) : (d.setGate x).config = d.config := rfl
@[simp] theorem setGate_port (x : Gate) (d : Device) : (d.setGate x).port = d.port := rfl
@[simp] theorem setGate_events (x : Gate) (d : Device) : (d.setGate x).events = d.events := rfl
@[simp] theorem setGate_ring (x : Gate) (d : Device) : (d.setGate x).ring = d.ring := rfl
@[simp] theorem setGate_recorder (x : Gate) (d : Device) : (d.setGate x).recorder = d.recorder := rfl
@[simp] theorem setGate_encoder (x : Gate) (d : Device) : (d.setGate x).encoder = d.encoder := rfl
@[simp] theorem setGate_decoder (x : Gate) (d : Device) : (d.setGate x).decoder = d.decoder := rfl
@[simp] theorem setGate_search (x : Gate) (d : Device) : (d.setGate x).search = d.search := rfl
@[simp] theorem setGate_conceal (x : Gate) (d : Device) : (d.setGate x).conceal = d.conceal := rfl
@[simp] theorem setGate_counters (x : Gate) (d : Device) : (d.setGate x).counters = d.counters := rfl
@[simp] theorem setGate_edit (x : Gate) (d : Device) : (d.setGate x).edit = d.edit := rfl
@[simp] theorem setGate_gate (x : Gate) (d : Device) : (d.setGate x).gate = x := rfl
@[simp] theorem setGate_router (x : Gate) (d : Device) : (d.setGate x).router = d.router := rfl
@[simp] theorem setGate_link (x : Gate) (d : Device) : (d.setGate x).link = d.link := rfl
@[simp] theorem setGate_table (x : Gate) (d : Device) : (d.setGate x).table = d.table := rfl
@[simp] theorem setGate_chase (x : Gate) (d : Device) : (d.setGate x).chase = d.chase := rfl
@[simp] theorem setGate_outputs (x : Gate) (d : Device) : (d.setGate x).outputs = d.outputs := rfl
@[simp] theorem setRouter_resetHeld (x : Router) (d : Device) : (d.setRouter x).resetHeld = d.resetHeld := rfl
@[simp] theorem setRouter_config (x : Router) (d : Device) : (d.setRouter x).config = d.config := rfl
@[simp] theorem setRouter_port (x : Router) (d : Device) : (d.setRouter x).port = d.port := rfl
@[simp] theorem setRouter_events (x : Router) (d : Device) : (d.setRouter x).events = d.events := rfl
@[simp] theorem setRouter_ring (x : Router) (d : Device) : (d.setRouter x).ring = d.ring := rfl
@[simp] theorem setRouter_recorder (x : Router) (d : Device) : (d.setRouter x).recorder = d.recorder := rfl
@[simp] theorem setRouter_encoder (x : Router) (d : Device) : (d.setRouter x).encoder = d.encoder := rfl
@[simp] theorem setRouter_decoder (x : Router) (d : Device) : (d.setRouter x).decoder = d.decoder := rfl
@[simp] theorem setRouter_search (x : Router) (d : Device) : (d.setRouter x).search = d.search := rfl
@[simp] theorem setRouter_conceal (x : Router) (d : Device) : (d.setRouter x).conceal = d.conceal := rfl
@[simp] theorem setRouter_counters (x : Router) (d : Device) : (d.setRouter x).counters = d.counters := rfl
@[simp] theorem setRouter_edit (x : Router) (d : Device) : (d.setRouter x).edit = d.edit := rfl
@[simp] theorem setRouter_gate (x : Router) (d : Device) : (d.setRouter x).gate = d.gate := rfl
@[simp] theorem setRouter_router (x : Router) (d : Device) : (d.setRouter x).router = x := rfl
@[simp] theorem setRouter_link (x : Router) (d : Device) : (d.setRouter x).link = d.link := rfl
@[simp] theorem setRouter_table (x : Router) (d : Device) : (d.setRouter x).table = d.table := rfl
@[simp] theorem setRouter_chase (x : Router) (d : Device) : (d.setRouter x).chase = d.chase := rfl
@[simp] theorem setRouter_outputs (x : Router) (d : Device) : (d.setRouter x).outputs = d.outputs := rfl
@[simp] theorem setLink_resetHeld (x : Link) (d : Device) : (d.setLink x).resetHeld = d.resetHeld := rfl
@[simp] theorem setLink_config (x : Link) (d : Device) : (d.setLink x).config = d.config := rfl
@[simp] theorem setLink_port (x : Link) (d : Device) : (d.setLink x).port = d.port := rfl
@[simp] theorem setLink_events (x : Link) (d : Device) : (d.setLink x).events = d.events := rfl
@[simp] theorem setLink_ring (x : Link) (d : Device) : (d.setLink x).ring = d.ring := rfl
@[simp] theorem setLink_recorder (x : Link) (d : Device) : (d.setLink x).recorder = d.recorder := rfl
@[simp] theorem setLink_encoder (x : Link) (d : Device) : (d.setLink x).encoder = d.encoder := rfl
@[simp] theorem setLink_decoder (x : Link) (d : Device) : (d.setLink x).decoder = d.decoder := rfl
@[simp] theorem setLink_search (x : Link) (d : Device) : (d.setLink x).search = d.search := rfl
@[simp] theorem setLink_conceal (x : Link) (d : Device) : (d.setLink x).conceal = d.conceal := rfl
@[simp] theorem setLink_counters (x : Link) (d : Device) : (d.setLink x).counters = d.counters := rfl
@[simp] theorem setLink_edit (x : Link) (d : Device) : (d.setLink x).edit = d.edit := rfl
@[simp] theorem setLink_gate (x : Link) (d : Device) : (d.setLink x).gate = d.gate := rfl
@[simp] theorem setLink_router (x : Link) (d : Device) : (d.setLink x).router = d.router := rfl
@[simp] theorem setLink_link (x : Link) (d : Device) : (d.setLink x).link = x := rfl
@[simp] theorem setLink_table (x : Link) (d : Device) : (d.setLink x).table = d.table := rfl
@[simp] theorem setLink_chase (x : Link) (d : Device) : (d.setLink x).chase = d.chase := rfl
@[simp] theorem setLink_outputs (x : Link) (d : Device) : (d.setLink x).outputs = d.outputs := rfl
@[simp] theorem setTable_resetHeld (x : List SlotEntry) (d : Device) : (d.setTable x).resetHeld = d.resetHeld := rfl
@[simp] theorem setTable_config (x : List SlotEntry) (d : Device) : (d.setTable x).config = d.config := rfl
@[simp] theorem setTable_port (x : List SlotEntry) (d : Device) : (d.setTable x).port = d.port := rfl
@[simp] theorem setTable_events (x : List SlotEntry) (d : Device) : (d.setTable x).events = d.events := rfl
@[simp] theorem setTable_ring (x : List SlotEntry) (d : Device) : (d.setTable x).ring = d.ring := rfl
@[simp] theorem setTable_recorder (x : List SlotEntry) (d : Device) : (d.setTable x).recorder = d.recorder := rfl
@[simp] theorem setTable_encoder (x : List SlotEntry) (d : Device) : (d.setTable x).encoder = d.encoder := rfl
@[simp] theorem setTable_decoder (x : List SlotEntry) (d : Device) : (d.setTable x).decoder = d.decoder := rfl
@[simp] theorem setTable_search (x : List SlotEntry) (d : Device) : (d.setTable x).search = d.search := rfl
@[simp] theorem setTable_conceal (x : List SlotEntry) (d : Device) : (d.setTable x).conceal = d.conceal := rfl
@[simp] theorem setTable_counters (x : List SlotEntry) (d : Device) : (d.setTable x).counters = d.counters := rfl
@[simp] theorem setTable_edit (x : List SlotEntry) (d : Device) : (d.setTable x).edit = d.edit := rfl
@[simp] theorem setTable_gate (x : List SlotEntry) (d : Device) : (d.setTable x).gate = d.gate := rfl
@[simp] theorem setTable_router (x : List SlotEntry) (d : Device) : (d.setTable x).router = d.router := rfl
@[simp] theorem setTable_link (x : List SlotEntry) (d : Device) : (d.setTable x).link = d.link := rfl
@[simp] theorem setTable_table (x : List SlotEntry) (d : Device) : (d.setTable x).table = x := rfl
@[simp] theorem setTable_chase (x : List SlotEntry) (d : Device) : (d.setTable x).chase = d.chase := rfl
@[simp] theorem setTable_outputs (x : List SlotEntry) (d : Device) : (d.setTable x).outputs = d.outputs := rfl
@[simp] theorem setChase_resetHeld (x : Chase) (d : Device) : (d.setChase x).resetHeld = d.resetHeld := rfl
@[simp] theorem setChase_config (x : Chase) (d : Device) : (d.setChase x).config = d.config := rfl
@[simp] theorem setChase_port (x : Chase) (d : Device) : (d.setChase x).port = d.port := rfl
@[simp] theorem setChase_events (x : Chase) (d : Device) : (d.setChase x).events = d.events := rfl
@[simp] theorem setChase_ring (x : Chase) (d : Device) : (d.setChase x).ring = d.ring := rfl
@[simp] theorem setChase_recorder (x : Chase) (d : Device) : (d.setChase x).recorder = d.recorder := rfl
@[simp] theorem setChase_encoder (x : Chase) (d : Device) : (d.setChase x).encoder = d.encoder := rfl
@[simp] theorem setChase_decoder (x : Chase) (d : Device) : (d.setChase x).decoder = d.decoder := rfl
@[simp] theorem setChase_search (x : Chase) (d : Device) : (d.setChase x).search = d.search := rfl
@[simp] theorem setChase_conceal (x : Chase) (d : Device) : (d.setChase x).conceal = d.conceal := rfl
@[simp] theorem setChase_counters (x : Chase) (d : Device) : (d.setChase x).counters = d.counters := rfl
@[simp] theorem setChase_edit (x : Chase) (d : Device) : (d.setChase x).edit = d.edit := rfl
@[simp] theorem setChase_gate (x : Chase) (d : Device) : (d.setChase x).gate = d.gate := rfl
@[simp] theorem setChase_router (x : Chase) (d : Device) : (d.setChase x).router = d.router := rfl
@[simp] theorem setChase_link (x : Chase) (d : Device) : (d.setChase x).link = d.link := rfl
@[simp] theorem setChase_table (x : Chase) (d : Device) : (d.setChase x).table = d.table := rfl
@[simp] theorem setChase_chase (x : Chase) (d : Device) : (d.setChase x).chase = x := rfl
@[simp] theorem setChase_outputs (x : Chase) (d : Device) : (d.setChase x).outputs = d.outputs := rfl
@[simp] theorem setOutputs_resetHeld (x : Outputs) (d : Device) : (d.setOutputs x).resetHeld = d.resetHeld := rfl
@[simp] theorem setOutputs_config (x : Outputs) (d : Device) : (d.setOutputs x).config = d.config := rfl
@[simp] theorem setOutputs_port (x : Outputs) (d : Device) : (d.setOutputs x).port = d.port := rfl
@[simp] theorem setOutputs_events (x : Outputs) (d : Device) : (d.setOutputs x).events = d.events := rfl
@[simp] theorem setOutputs_ring (x : Outputs) (d : Device) : (d.setOutputs x).ring = d.ring := rfl
@[simp] theorem setOutputs_recorder (x : Outputs) (d : Device) : (d.setOutputs x).recorder = d.recorder := rfl
@[simp] theorem setOutputs_encoder (x : Outputs) (d : Device) : (d.setOutputs x).encoder = d.encoder := rfl
@[simp] theorem setOutputs_decoder (x : Outputs) (d : Device) : (d.setOutputs x).decoder = d.decoder := rfl
@[simp] theorem setOutputs_search (x : Outputs) (d : Device) : (d.setOutputs x).search = d.search := rfl
@[simp] theorem setOutputs_conceal (x : Outputs) (d : Device) : (d.setOutputs x).conceal = d.conceal := rfl
@[simp] theorem setOutputs_counters (x : Outputs) (d : Device) : (d.setOutputs x).counters = d.counters := rfl
@[simp] theorem setOutputs_edit (x : Outputs) (d : Device) : (d.setOutputs x).edit = d.edit := rfl
@[simp] theorem setOutputs_gate (x : Outputs) (d : Device) : (d.setOutputs x).gate = d.gate := rfl
@[simp] theorem setOutputs_router (x : Outputs) (d : Device) : (d.setOutputs x).router = d.router := rfl
@[simp] theorem setOutputs_link (x : Outputs) (d : Device) : (d.setOutputs x).link = d.link := rfl
@[simp] theorem setOutputs_table (x : Outputs) (d : Device) : (d.setOutputs x).table = d.table := rfl
@[simp] theorem setOutputs_chase (x : Outputs) (d : Device) : (d.setOutputs x).chase = d.chase := rfl
@[simp] theorem setOutputs_outputs (x : Outputs) (d : Device) : (d.setOutputs x).outputs = x := rfl

end Sys2Proof.Laws
end

