-- ==== Sys2Proof/Laws/Encoding.lean ====
section
/-! SUPPORT. The encoder: an encode is the one Safety spells out pair by pair. -/

namespace Sys2Proof.Machine

open Sys2Proof

/-- The pairs of an encode, one after the other, from words already written. -/
theorem encodeAll_foldl {mode : Requant} {length : Nat}
    {f : List Pair × Requantizer → Pair × Bool → List Pair × Requantizer}
    (hf : ∀ (done : List Pair × Requantizer) (x : EncodePair), f done (x.pair, x.requantized) =
      let one := if x.requantized then requantizePair mode length x.pair done.2 else (dropLowBits length x.pair, done.2)
      (done.1 ++ [one.1], one.2)) :
    ∀ (l : List EncodePair) (done : List Pair × Requantizer),
      (l.map (fun p => (p.pair, p.requantized))).foldl f done =
        (done.1 ++ (encodeAll mode length l done.2).1, (encodeAll mode length l done.2).2)
  | [], done => by simp [encodeAll]
  | x :: rest, done => by
    rw [List.map_cons, List.foldl_cons, encodeAll_foldl hf rest, hf]
    simp [encodeAll]

/-- The words of an encode and the requantizer it leaves. -/
theorem encodeAll_eq (mode : Requant) (length : Nat) (l : List EncodePair) (z : Requantizer) :
    encodeAll mode length l z = tapeWords mode length z (l.map (fun p => (p.pair, p.requantized))) := by
  have hq : (0 : Int) ≤ 2 ^ (24 - length) := Int.le_of_lt (Int.pow_pos (by decide))
  unfold tapeWords
  rw [encodeAll_foldl (mode := mode) (length := length)]
  · simp
  · intro done x
    cases h : x.requantized <;> simp [dropLowBits, sampleOf, floorTo, tapeStep, Int.fdiv_eq_ediv_of_nonneg _ hq]

/-- The pairs an encode treats. -/
theorem encodePairs_toTape (r : Segment) : (encodePairs r).map (fun p => (p.pair, p.requantized)) = toTape r := by
  unfold encodePairs toTape isRecordSegment recordPairs insertPairs
  cases r.old with
  | none =>
    by_cases hd : r.decision = some .shut
    · simp only [Option.isNone_none, hd, if_true, List.map_replicate]
    · simp only [Option.isNone_none, hd, if_true, if_false, List.map_map]
      rfl
  | some old =>
    simp only [Option.isNone_some, Option.getD_some, List.map_map, Bool.false_eq_true, if_false]
    rfl

/-- The requantizer an encode finds. -/
theorem requantizerFor_eq (r : Segment) (e : Encoder) :
    let kept : Bool := e.last.map (· + 1) == some r.number && !(r.old.isNone && r.decision == some .shut)
    requantizerFor r e =
      { left := if kept then e.errorLeft else 0, right := if kept then e.errorRight else 0, generator := e.generator } := by
  intro kept
  have h : (e.last.isSome && e.last.map (· + 1) == some r.number) = (e.last.map (· + 1) == some r.number) := by
    cases e.last <;> simp
  have hk : (e.last.isSome && e.last.map (· + 1) == some r.number &&
      !(isRecordSegment r && r.decision == some .shut)) = kept := by rw [h]; rfl
  unfold requantizerFor
  simp only [hk]
  cases kept <;> rfl

/-- An idle encoder takes the lowest ENCODING segment (R34, R35). -/
theorem startEncode_starts {n : Nat} {r : Segment} {x : Subcode} {d : Device} (hi : d.encoder.inFlight = none)
    (hl : lowestIn .encoding d = some n) (hr : heldIn .encoding n d = some r) (hx : r.subcode = some x) :
    startEncode d = { d with encoder := encoderStarted r x d } := by
  unfold startEncode
  simp only [hi, hl, hr, Option.bind_some, encodeSegment, hx, Option.getD_some, encodeAll_eq, encodePairs_toTape,
    requantizerFor_eq]
  rfl

end Sys2Proof.Machine
end

