-- ==== Sys2Proof/Laws/Traffic.lean ====
section
/-! SUPPORT. What the shared operations of the Edit Ring, the outgoing queue and the ring's slots can do, said once for
each: which parts of the device may differ afterwards, and that the shapes are kept. -/

namespace Sys2Proof.Machine

open Sys2Proof

/-- Only the Edit Ring, the outgoing queue and the events may differ, and their shapes are kept. -/
structure EditTraffic (d d' : Device) : Prop where
  rest : d' = { d with
    edit := d'.edit, events := d'.events, link := { d.link with queue := d'.link.queue }
    table := d'.table }
  places : d'.edit.places.length = d.edit.places.length
  tail : d.edit.tail < 32 → d'.edit.tail < 32
  head : d.edit.head < 32 → d'.edit.head < 32
  fades : d'.edit.fadeTable = d.edit.fadeTable
  details : d'.events.details.length = d.events.details.length
  slots : d'.table.length = d.table.length
  queue : d.link.queue.length ≤ 8 → d'.link.queue.length ≤ 8

namespace EditTraffic

theorem refl (d : Device) : EditTraffic d d := by
  constructor <;> first | rfl | exact id

theorem trans {a b c : Device} (h : EditTraffic a b) (k : EditTraffic b c) : EditTraffic a c where
  rest := by rw [k.rest, h.rest]
  places := k.places.trans h.places
  tail := k.tail ∘ h.tail
  head := k.head ∘ h.head
  fades := k.fades.trans h.fades
  details := k.details.trans h.details
  slots := k.slots.trans h.slots
  queue := k.queue ∘ h.queue

/-- The Edit Ring changed in place. -/
theorem ofEdit {d : Device} {e : Edit} (h1 : e.places.length = d.edit.places.length)
    (h2 : d.edit.tail < 32 → e.tail < 32) (h3 : d.edit.head < 32 → e.head < 32)
    (h4 : e.fadeTable = d.edit.fadeTable) : EditTraffic d (d.setEdit e) := by
  constructor <;> first | rfl | assumption | exact id

/-- A fold of operations that are each edit traffic. -/
theorem fold {α : Type} {f : Device → α → Device} (h : ∀ d x, EditTraffic d (f d x)) :
    ∀ (l : List α) (d : Device), EditTraffic d (l.foldl f d)
  | [], d => refl d
  | x :: rest, d => (h d x).trans (fold h rest (f d x))

end EditTraffic

theorem raise_traffic (e : EventDetail) (d : Device) : EditTraffic d (raise e d) := by
  constructor <;> first | rfl | exact id | simp [raise]

theorem putEntry_traffic (p : Nat) (e : Entry) (d : Device) : EditTraffic d (putEntry p e d) :=
  .ofEdit (by simp) id id rfl

theorem updateEntry_traffic (p : Nat) (f : Entry → Entry) (d : Device) : EditTraffic d (updateEntry p f d) := by
  unfold updateEntry
  split
  · exact putEntry_traffic ..
  · exact .refl d

theorem updateResult_traffic (p : Nat) (f : EditResult → EditResult) (d : Device) :
    EditTraffic d (updateResult p f d) := updateEntry_traffic ..

theorem setTouch_traffic (t : Touch) (d : Device) : EditTraffic d (setTouch t d) := .ofEdit rfl id id rfl

theorem joinQueue_length (m : Queued) (q : List Queued) : (joinQueue m q).length = q.length + 1 := by
  unfold joinQueue
  split
  · induction q with
    | nil => rfl
    | cons x q ih =>
      simp only [List.filter_cons]
      by_cases hx : urgentKind x.kind = true
      · simp only [hx] at *
        simp_all
      · simp only [hx] at *
        simp_all
        omega
  · simp

theorem setQueue_traffic (q : List Queued) (d : Device) (h : d.link.queue.length ≤ 8 → q.length ≤ 8) :
    EditTraffic d (setQueue q d) := by
  constructor <;> first | rfl | exact h | exact id

theorem putSlotEntry_traffic (k : Nat) (e : SlotEntry) (d : Device) : EditTraffic d (putSlotEntry k e d) := by
  constructor <;> first | rfl | exact id | simp [putSlotEntry]

/-- A message joins only where the queue takes it (R150). -/
theorem join_traffic (m : Queued) (d : Device) (h : d.link.queue.length < 8) :
    EditTraffic d (setQueue (joinQueue m d.link.queue) d) :=
  setQueue_traffic _ _ (fun _ => by rw [joinQueue_length]; omega)

theorem queueTakes_length {d : Device} (h : queueTakes d = true) : d.link.queue.length < 8 := by
  simp [queueTakes] at h; exact h.2

/-! ### Reports and the queue -/

theorem queueReport_traffic (p : Nat) (d : Device) (h : d.link.queue.length < 8) :
    EditTraffic d (queueReport p d) := by
  unfold queueReport
  split
  · split
    · exact (join_traffic _ d h).trans (updateEntry_traffic ..)
    · exact .refl d
  · exact .refl d

theorem offerReport_traffic (p : Nat) (d : Device) : EditTraffic d (offerReport p d) := by
  unfold offerReport
  split
  · split
    · exact queueReport_traffic _ _ (queueTakes_length ‹_›)
    · exact updateEntry_traffic ..
  · exact .refl d

theorem emptyTail_traffic (d : Device) : EditTraffic d (emptyTail d) :=
  .ofEdit (by simp) (fun _ => Nat.mod_lt _ (by decide)) id rfl

theorem emptySentTail_traffic : ∀ (n : Nat) (d : Device), EditTraffic d (emptySentTail n d)
  | 0, d => .refl d
  | n + 1, d => by
    unfold emptySentTail
    split
    · exact (emptyTail_traffic d).trans (emptySentTail_traffic n _)
    · exact .refl d

theorem reportSent_traffic (p : Nat) (d : Device) : EditTraffic d (reportSent p d) :=
  (updateEntry_traffic ..).trans (emptySentTail_traffic ..)

theorem queueRelease_traffic (k : Nat) (o : MessageOrigin) (d : Device) (h : d.link.queue.length < 8) :
    EditTraffic d (queueRelease k o d) := (join_traffic _ d h).trans (putSlotEntry_traffic ..)

theorem fillPlace_traffic (d : Device) : EditTraffic d (fillPlace d) := by
  unfold fillPlace
  split
  · have h := queueTakes_length ‹_›
    split
    · exact queueRelease_traffic _ _ _ h
    · split
      · exact queueReport_traffic _ _ h
      · exact .refl d
  · exact .refl d

theorem fillPlaces_traffic : ∀ (n : Nat) (d : Device), EditTraffic d (fillPlaces n d)
  | 0, d => .refl d
  | n + 1, d => (fillPlace_traffic d).trans (fillPlaces_traffic n _)

theorem withdrawFirst_traffic (p : Queued → Bool) (d : Device) : EditTraffic d (withdrawFirst p d) := by
  unfold withdrawFirst
  split
  · refine (setQueue_traffic _ d (fun h => ?_)).trans (fillPlace_traffic _)
    exact Nat.le_trans (List.length_eraseP_le) h
  · exact .refl d

/-! ### Entries and the sequencer -/

theorem retire_traffic (p : Nat) (st : EditStatus) (d : Device) : EditTraffic d (retire p st d) := by
  unfold retire
  split
  · exact ((putEntry_traffic ..).trans (raise_traffic ..)).trans (offerReport_traffic ..)
  · exact .refl d

theorem skipChain_traffic (p : Nat) (d : Device) : EditTraffic d (skipChain p d) := by
  unfold skipChain
  split
  · exact retire_traffic ..
  · exact .refl d

theorem retireUnfired_traffic (p : Nat) (st : EditStatus) (d : Device) : EditTraffic d (retireUnfired p st d) :=
  (retire_traffic ..).trans (skipChain_traffic ..)

theorem rederive_traffic (d : Device) : EditTraffic d (rederive d) := by
  have h (next : SeqState) (b : Prop) [Decidable b] : EditTraffic d
      (if b then raise .editDrained (d.setEdit { d.edit with state := next })
       else d.setEdit { d.edit with state := next }) := by
    split
    · refine EditTraffic.trans ?_ (raise_traffic ..)
      exact .ofEdit rfl id id rfl
    · exact .ofEdit rfl id id rfl
  exact h _ _

theorem resolveNext_traffic (p : Nat) (pair : Position) (d : Device) : EditTraffic d (resolveNext p pair d) :=
  updateEntry_traffic ..

theorem settleHead_traffic : ∀ (n : Nat) (d : Device), EditTraffic d (settleHead n d)
  | 0, d => .refl d
  | n + 1, d => by
    unfold settleHead
    split
    · dsimp only
      split
      · split
        · exact ((resolveNext_traffic ..).trans (retireUnfired_traffic ..)).trans (settleHead_traffic n _)
        · exact resolveNext_traffic ..
      · exact resolveNext_traffic ..
    · exact .refl d

theorem reconsider_traffic (d : Device) : EditTraffic d (reconsider d) :=
  (settleHead_traffic ..).trans (rederive_traffic ..)

theorem changeOutcome_traffic (p : Nat) (o : EditOutcome) (d : Device) : EditTraffic d (changeOutcome p o d) :=
  updateEntry_traffic ..

theorem retireTest_traffic (p : Nat) (d : Device) : EditTraffic d (retireTest p d) := by
  unfold retireTest
  split
  · split
    · exact retire_traffic ..
    · exact .refl d
  · exact .refl d

theorem retireTests_traffic (d : Device) : EditTraffic d (retireTests d) :=
  EditTraffic.fold (fun d p => retireTest_traffic p d) _ d

theorem endInsertion_traffic (own : Bool) (d : Device) : EditTraffic d (endInsertion own d) := by
  unfold endInsertion
  split
  · exact .refl d
  · rename_i p _
    dsimp only
    refine EditTraffic.trans ?_ (retireTest_traffic ..)
    refine EditTraffic.trans ?_ (rederive_traffic ..)
    have h : EditTraffic d (d.setEdit (withoutInsertion d.edit)) := .ofEdit rfl id id rfl
    refine EditTraffic.trans (h.trans (updateEntry_traffic p (fun e => { e with state := .verifying }) _)) ?_
    split
    · exact retire_traffic ..
    · exact .refl _

theorem dropInsertion_traffic (d : Device) : EditTraffic d (dropInsertion d) := by
  unfold dropInsertion
  split
  · exact .refl d
  · exact ((skipChain_traffic ..).trans (reconsider_traffic ..)).trans (endInsertion_traffic ..)

theorem breakInsertion_traffic (d : Device) : EditTraffic d (breakInsertion d) := by
  unfold breakInsertion
  split
  · exact .refl d
  · exact (changeOutcome_traffic ..).trans (dropInsertion_traffic ..)

theorem placePost_traffic (who : Poster) (post : EditPost) (d : Device) :
    EditTraffic d (placePost who post d).1 := by
  unfold placePost
  split
  · exact .refl d
  · split
    · exact .refl d
    · dsimp only
      refine EditTraffic.trans ?_ (reconsider_traffic _)
      refine EditTraffic.trans ?_ (rederive_traffic _)
      refine (putEntry_traffic _ _ d).trans (.ofEdit rfl id (fun _ => Nat.mod_lt _ (by decide)) rfl)

theorem startCancelFade_traffic (shape : Nat) (d : Device) : EditTraffic d (startCancelFade shape d) :=
  .ofEdit rfl id id rfl

theorem cancelEntry_traffic (who : Poster) (tag : Byte) (d : Device) : EditTraffic d (cancelEntry who tag d).1 := by
  unfold cancelEntry
  split
  · exact .refl d
  · split
    · exact .refl d
    · split
      · split
        · exact .refl d
        · exact (retireUnfired_traffic ..).trans (reconsider_traffic _)
      · split
        · exact .refl d
        · exact (((changeOutcome_traffic ..).trans (skipChain_traffic ..)).trans (reconsider_traffic _)).trans
            (startCancelFade_traffic ..)
      · exact .refl d
      · exact .refl d

theorem searchHit_traffic (pattern s : Nat) (d : Device) : EditTraffic d (searchHit pattern s d) := by
  refine EditTraffic.trans ?_ (reconsider_traffic _)
  exact .ofEdit (by simp) id id rfl

theorem lockLost_traffic (d : Device) : EditTraffic d (lockLost d) := by
  unfold lockLost
  split
  · exact updateResult_traffic ..
  · exact .refl d

theorem zeroInFlight_traffic (d : Device) : EditTraffic d (zeroInFlight d) := .ofEdit (by simp) id id rfl

theorem abandonVerifying_traffic (d : Device) (p : Nat) : EditTraffic d (abandonVerifying d p) := by
  unfold abandonVerifying
  split
  · split
    · exact (updateResult_traffic ..).trans (retire_traffic ..)
    · exact .refl d
  · exact .refl d

theorem withoutInsertion_traffic (d : Device) : EditTraffic d (d.setEdit (withoutInsertion d.edit)) :=
  .ofEdit rfl id id rfl

theorem clearedSequencer_traffic (d : Device) :
    EditTraffic d (d.setEdit { withoutInsertion d.edit with touch := Touch.empty, state := .idle }) :=
  .ofEdit rfl id id rfl

theorem abandonEdits_traffic (d : Device) : EditTraffic d (abandonEdits d) := by
  unfold abandonEdits
  dsimp only
  refine EditTraffic.trans ?_ (rederive_traffic _)
  refine EditTraffic.trans (EditTraffic.trans ?_ (EditTraffic.fold abandonVerifying_traffic _ _))
    (withoutInsertion_traffic _)
  refine (setTouch_traffic Touch.empty d).trans ?_
  split
  · rename_i o _
    have h (e : Device) (st : EditStatus) (x : Option Nat) :
        EditTraffic e (match x with | some o => retire o st e | none => e) := by
      split
      · exact retire_traffic ..
      · exact .refl e
    exact (retire_traffic o _ _).trans (h _ _ _)
  · exact .refl _

theorem cancelPlace_traffic (d : Device) (p : Nat) : EditTraffic d (cancelPlace d p) := by
  unfold cancelPlace
  split
  · split
    · exact .refl d
    · exact retire_traffic ..
  · exact .refl d

theorem cancelEdits_traffic (d : Device) : EditTraffic d (cancelEdits d) := by
  have h : EditTraffic d ((placesInOrder d).foldl cancelPlace d) := EditTraffic.fold cancelPlace_traffic _ _
  unfold cancelEdits
  dsimp only
  split
  · exact h.trans (clearedSequencer_traffic _)
  · exact (h.trans (clearedSequencer_traffic _)).trans (raise_traffic ..)

theorem releaseReport_traffic (p : Nat) (d : Device) : EditTraffic d (releaseReport p d) := by
  unfold releaseReport
  split
  · exact setQueue_traffic _ _ (by simp)
  · exact withdrawFirst_traffic ..

theorem reapTail_traffic (d : Device) : EditTraffic d (reapTail d).1 := by
  unfold reapTail
  split
  · split
    · exact ((emptyTail_traffic d).trans (emptySentTail_traffic ..)).trans (releaseReport_traffic ..)
    · exact .refl d
  · exact .refl d

/-! ### The slots of the ring -/

/-- Beyond edit traffic, slots may have become FREE or changed in place, each record in its own slot. -/
structure RingTraffic (d d' : Device) : Prop where
  rest : d' = { d with
    ring := { d.ring with slots := d'.ring.slots }
    edit := d'.edit, events := d'.events, link := { d.link with queue := d'.link.queue }, table := d'.table }
  placed : ringPlaced d → ringPlaced d'
  places : d'.edit.places.length = d.edit.places.length
  tail : d.edit.tail < 32 → d'.edit.tail < 32
  head : d.edit.head < 32 → d'.edit.head < 32
  fades : d'.edit.fadeTable = d.edit.fadeTable
  details : d'.events.details.length = d.events.details.length
  slots : d'.table.length = d.table.length
  queue : d.link.queue.length ≤ 8 → d'.link.queue.length ≤ 8

namespace RingTraffic

theorem refl (d : Device) : RingTraffic d d := by
  constructor <;> first | rfl | exact id

theorem trans {a b c : Device} (h : RingTraffic a b) (k : RingTraffic b c) : RingTraffic a c where
  rest := by rw [k.rest, h.rest]
  placed := k.placed ∘ h.placed
  places := k.places.trans h.places
  tail := k.tail ∘ h.tail
  head := k.head ∘ h.head
  fades := k.fades.trans h.fades
  details := k.details.trans h.details
  slots := k.slots.trans h.slots
  queue := k.queue ∘ h.queue

/-- Edit traffic leaves the ring alone. -/
theorem ofEdit {d d' : Device} (h : EditTraffic d d') : RingTraffic d d' where
  rest := by rw [h.rest]
  placed := by intro k; rw [h.rest]; exact k
  places := h.places
  tail := h.tail
  head := h.head
  fades := h.fades
  details := h.details
  slots := h.slots
  queue := h.queue

theorem fold {α : Type} {f : Device → α → Device} (h : ∀ d x, RingTraffic d (f d x)) :
    ∀ (l : List α) (d : Device), RingTraffic d (l.foldl f d)
  | [], d => refl d
  | x :: rest, d => (h d x).trans (fold h rest (f d x))

/-- The slots replaced by others that are placed. -/
theorem ofSlots {d : Device} {l : List (Option Segment)}
    (h : ringPlaced d → ringPlaced (d.setRing { d.ring with slots := l })) :
    RingTraffic d (d.setRing { d.ring with slots := l }) := by
  constructor <;> first | rfl | exact id | exact h

end RingTraffic

/-- A record goes to its own slot (R1). -/
theorem putSegment_traffic (r : Segment) (d : Device) : RingTraffic d (putSegment r d) := by
  refine RingTraffic.ofSlots (fun h => ⟨by simpa using h.1, fun i x hx => ?_⟩)
  have h16 : r.number % 16 < d.ring.slots.length := by rw [h.1]; exact Nat.mod_lt _ (by decide)
  simp only [Laws.setRing_ring, List.getElem?_set] at hx
  split at hx
  · simp only [Option.some.injEq] at hx
    subst hx
    assumption
  · exact h.2 i x hx

/-- A slot made FREE (R2). -/
theorem clearSlot_traffic (n : Nat) (d : Device) : RingTraffic d (clearSlot n d) := by
  refine RingTraffic.ofSlots (fun h => ⟨by simpa using h.1, fun i x hx => ?_⟩)
  simp only [Laws.setRing_ring, List.getElem?_set] at hx
  split at hx
  · split at hx <;> simp at hx
  · exact h.2 i x hx

theorem updateSegment_traffic (n : Nat) (f : Segment → Segment) (d : Device) :
    RingTraffic d (updateSegment n f d) := by
  unfold updateSegment
  split
  · exact putSegment_traffic ..
  · exact .refl d

theorem freeSlot_traffic (n : Nat) (d : Device) : RingTraffic d (freeSlot n d) := by
  unfold freeSlot
  split
  · exact .refl d
  · dsimp only
    refine RingTraffic.trans (clearSlot_traffic n d) ?_
    split
    · exact .refl _
    · exact .ofEdit ((updateResult_traffic ..).trans (retireTest_traffic ..))

theorem freeSlots_traffic (l : List Nat) (d : Device) : RingTraffic d (freeSlots l d) :=
  RingTraffic.fold (fun d n => freeSlot_traffic n d) l d

theorem tellWriteLate_traffic (n p : Nat) (d : Device) : RingTraffic d (tellWriteLate n p d) := by
  unfold tellWriteLate
  dsimp only
  have h1 (e : Device) (l : List Nat) (f : EditResult → EditResult) :
      RingTraffic e (freeSlots l (updateResult p f (changeOutcome p .broken e))) :=
    (RingTraffic.ofEdit ((changeOutcome_traffic p .broken e).trans (updateResult_traffic p f _))).trans
      (freeSlots_traffic l _)
  have h2 (e : Device) : RingTraffic e (if e.edit.insertion = some p then dropInsertion e else e) := by
    split
    · exact .ofEdit (dropInsertion_traffic e)
    · exact .refl e
  have h3 (e : Device) :
      RingTraffic e (if touchNames p e then setTouch { e.edit.touch with spoiled := true } e else e) := by
    split
    · exact .ofEdit (setTouch_traffic ..)
    · exact .refl e
  exact ((h1 _ _ _).trans (h2 _)).trans (h3 _)

theorem writeLate_traffic (n : Nat) (d : Device) : RingTraffic d (writeLate n d) := by
  unfold writeLate
  split
  · exact .refl d
  · dsimp only
    have h (e : Device) (x : Option Nat) (told : Bool) :
        RingTraffic e (match x with | some p => if told then e else tellWriteLate n p e | none => e) := by
      split
      · split
        · exact .refl e
        · exact tellWriteLate_traffic ..
      · exact .refl e
    exact ((putSegment_traffic _ d).trans (.ofEdit (raise_traffic ..))).trans (h _ _ _)

end Sys2Proof.Machine
end

