-- ==== Sys2Proof/Laws/Kept.lean ====
section
/-! SUPPORT. The invariants of Safety through the shared operations: for each operation, what holds of the device before
it holds after it. The lemmas take what is known of the device so far, so that they chain. -/

namespace Sys2Proof.Machine

open Sys2Proof

/-- Each invariant of Safety that holds of `d` holds of `d'`. -/
structure Kept (d d' : Device) : Prop where
  ring : ringPlaced d → ringPlaced d'
  tables : tablesShaped d → tablesShaped d'
  recorder : recorderFollowsMode d → recorderFollowsMode d'
  queues : queuesBounded d → queuesBounded d'

namespace Kept

theorem refl (d : Device) : Kept d d := ⟨id, id, id, id⟩

theorem trans {a b c : Device} (h : Kept a b) (k : Kept b c) : Kept a c :=
  ⟨k.ring ∘ h.ring, k.tables ∘ h.tables, k.recorder ∘ h.recorder, k.queues ∘ h.queues⟩

theorem fold {α : Type} {a : Device} {f : Device → α → Device} (h : ∀ {d x}, Kept a d → Kept a (f d x)) :
    ∀ (l : List α) {d : Device}, Kept a d → Kept a (l.foldl f d)
  | [], _, k => k
  | _ :: rest, _, k => fold h rest (h k)

/-- Where a condition chooses between two devices. -/
theorem ite {a x y : Device} {c : Prop} [Decidable c] (h : Kept a x) (k : Kept a y) : Kept a (if c then x else y) := by
  split
  · exact h
  · exact k

/-! ### Updates of one block -/

section Updates
variable {a d : Device}

theorem setResetHeld (h : Kept a d) (x : Bool) : Kept a (d.setResetHeld x) := ⟨h.ring, h.tables, h.recorder, h.queues⟩
theorem setConfig (h : Kept a d) (x : Option Configuration) : Kept a (d.setConfig x) :=
  ⟨h.ring, h.tables, h.recorder, h.queues⟩
theorem setEncoder (h : Kept a d) (x : Encoder) : Kept a (d.setEncoder x) := ⟨h.ring, h.tables, h.recorder, h.queues⟩
theorem setCounters (h : Kept a d) (x : Counters) : Kept a (d.setCounters x) := ⟨h.ring, h.tables, h.recorder, h.queues⟩
theorem setChase (h : Kept a d) (x : Chase) : Kept a (d.setChase x) := ⟨h.ring, h.tables, h.recorder, h.queues⟩
theorem setOutputs (h : Kept a d) (x : Outputs) : Kept a (d.setOutputs x) := ⟨h.ring, h.tables, h.recorder, h.queues⟩

theorem setPort (h : Kept a d) {x : Port} (hx : x.mode = d.port.mode) : Kept a (d.setPort x) where
  ring := h.ring
  tables := h.tables
  recorder k m := h.recorder k (hx ▸ m)
  queues := h.queues

theorem setRing (h : Kept a d) {x : Ring} (hx : x.slots = d.ring.slots) : Kept a (d.setRing x) where
  ring k := by
    unfold ringPlaced
    rw [show (d.setRing x).ring.slots = d.ring.slots from hx]
    exact h.ring k
  tables := h.tables
  recorder := h.recorder
  queues := h.queues

theorem setRecorder (h : Kept a d) {x : Recorder} (hx : d.recorder.state = .idle → x.state = .idle) :
    Kept a (d.setRecorder x) where
  ring := h.ring
  tables := h.tables
  recorder k m := hx (h.recorder k m)
  queues := h.queues

theorem setDecoder (h : Kept a d) {x : Decoder} (hx : d.decoder.queue.length ≤ 4 → x.queue.length ≤ 4) :
    Kept a (d.setDecoder x) where
  ring := h.ring
  tables := h.tables
  recorder := h.recorder
  queues k := ⟨hx (h.queues k).1, (h.queues k).2⟩

theorem setSearch (h : Kept a d) {x : Search} (hx : x.patterns.length = d.search.patterns.length) :
    Kept a (d.setSearch x) where
  ring := h.ring
  tables k := by
    have := h.tables k
    simp_all [tablesShaped]
  recorder := h.recorder
  queues := h.queues

theorem setConceal (h : Kept a d) {x : Conceal} (hx : x.kernel.length = d.conceal.kernel.length) :
    Kept a (d.setConceal x) where
  ring := h.ring
  tables k := by
    have := h.tables k
    simp_all [tablesShaped]
  recorder := h.recorder
  queues := h.queues

theorem setGate (h : Kept a d) {x : Gate} (hx : x.relays.length = d.gate.relays.length) : Kept a (d.setGate x) where
  ring := h.ring
  tables k := by
    have := h.tables k
    simp_all [tablesShaped]
  recorder := h.recorder
  queues := h.queues

theorem setRouter (h : Kept a d) {x : Router} (hx : x.routes.length = d.router.routes.length) :
    Kept a (d.setRouter x) where
  ring := h.ring
  tables k := by
    have := h.tables k
    simp_all [tablesShaped]
  recorder := h.recorder
  queues := h.queues

theorem setEvents (h : Kept a d) {x : Events} (hx : x.details.length = d.events.details.length) :
    Kept a (d.setEvents x) where
  ring := h.ring
  tables k := by
    have := h.tables k
    simp_all [tablesShaped]
  recorder := h.recorder
  queues := h.queues

theorem setTable (h : Kept a d) {x : List SlotEntry} (hx : x.length = d.table.length) : Kept a (d.setTable x) where
  ring := h.ring
  tables k := by
    have := h.tables k
    simp_all [tablesShaped]
  recorder := h.recorder
  queues := h.queues

theorem setLink (h : Kept a d) {x : Link} (hx : d.link.queue.length ≤ 8 → x.queue.length ≤ 8) :
    Kept a (d.setLink x) where
  ring := h.ring
  tables := h.tables
  recorder := h.recorder
  queues k := ⟨(h.queues k).1, hx (h.queues k).2⟩

theorem setEdit (h : Kept a d) {x : Edit} (h1 : x.places.length = d.edit.places.length)
    (h2 : d.edit.tail < 32 → x.tail < 32) (h3 : d.edit.head < 32 → x.head < 32)
    (h4 : x.fadeTable.length = d.edit.fadeTable.length) : Kept a (d.setEdit x) where
  ring := h.ring
  tables k := by
    have := h.tables k
    simp_all [tablesShaped]
  recorder := h.recorder
  queues := h.queues

/-- Edit traffic keeps every invariant. -/
theorem edit {d' : Device} (h : Kept a d) (t : EditTraffic d d') : Kept a d' := by
  refine h.trans ⟨?_, ?_, ?_, ?_⟩
  · intro k
    rw [t.rest]
    exact k
  · intro k
    have := t.places
    have := t.tail
    have := t.head
    have := t.fades
    have := t.details
    have := t.slots
    rw [t.rest]
    simp_all [tablesShaped]
  · intro k
    rw [t.rest]
    exact k
  · intro k
    have := t.queue k.2
    rw [t.rest]
    exact ⟨k.1, this⟩

/-- Ring traffic keeps every invariant. -/
theorem traffic {d' : Device} (h : Kept a d) (t : RingTraffic d d') : Kept a d' := by
  refine h.trans ⟨t.placed, ?_, ?_, ?_⟩
  · intro k
    have := t.places
    have := t.tail
    have := t.head
    have := t.fades
    have := t.details
    have := t.slots
    rw [t.rest]
    simp_all [tablesShaped]
  · intro k
    rw [t.rest]
    exact k
  · intro k
    have := t.queue k.2
    rw [t.rest]
    exact ⟨k.1, this⟩

end Updates

/-! ### Events, counters, places, slots, queue -/

section Shared
variable {a d : Device}

theorem raise (h : Kept a d) (e : EventDetail) : Kept a (raise e d) := h.edit (raise_traffic e d)

theorem putCounters (h : Kept a d) (s : Playback) (c : CounterSet) : Kept a (putCounters s c d) := by
  cases s
  · exact h.setCounters _
  · exact h.setCounters _

theorem countUp (h : Kept a d) (s : Playback) (n : CounterName) (k : Nat) : Kept a (countUp s n k d) :=
  .ite ((h.putCounters s _).raise _) (h.putCounters s _)

theorem putSegment (h : Kept a d) (r : Segment) : Kept a (putSegment r d) := h.traffic (putSegment_traffic r d)
theorem updateSegment (h : Kept a d) (n : Nat) (f : Segment → Segment) : Kept a (updateSegment n f d) :=
  h.traffic (updateSegment_traffic n f d)
theorem freeSlot (h : Kept a d) (n : Nat) : Kept a (freeSlot n d) := h.traffic (freeSlot_traffic n d)
theorem freeSlots (h : Kept a d) (l : List Nat) : Kept a (freeSlots l d) := h.traffic (freeSlots_traffic l d)
theorem freeStates (h : Kept a d) (l : List SlotState) : Kept a (freeStates l d) := h.freeSlots _
theorem writeLate (h : Kept a d) (n : Nat) : Kept a (writeLate n d) := h.traffic (writeLate_traffic n d)

theorem updateEntry (h : Kept a d) (p : Nat) (f : Entry → Entry) : Kept a (updateEntry p f d) :=
  h.edit (updateEntry_traffic p f d)
theorem updateResult (h : Kept a d) (p : Nat) (f : EditResult → EditResult) : Kept a (updateResult p f d) :=
  h.edit (updateResult_traffic p f d)
theorem setTouch (h : Kept a d) (t : Touch) : Kept a (setTouch t d) := h.edit (setTouch_traffic t d)
theorem retire (h : Kept a d) (p : Nat) (st : EditStatus) : Kept a (retire p st d) := h.edit (retire_traffic p st d)
theorem retireUnfired (h : Kept a d) (p : Nat) (st : EditStatus) : Kept a (retireUnfired p st d) :=
  h.edit (retireUnfired_traffic p st d)
theorem skipChain (h : Kept a d) (p : Nat) : Kept a (skipChain p d) := h.edit (skipChain_traffic p d)
theorem rederive (h : Kept a d) : Kept a (rederive d) := h.edit (rederive_traffic d)
theorem reconsider (h : Kept a d) : Kept a (reconsider d) := h.edit (reconsider_traffic d)
theorem retireTests (h : Kept a d) : Kept a (retireTests d) := h.edit (retireTests_traffic d)
theorem endInsertion (h : Kept a d) (own : Bool) : Kept a (endInsertion own d) := h.edit (endInsertion_traffic own d)
theorem dropInsertion (h : Kept a d) : Kept a (dropInsertion d) := h.edit (dropInsertion_traffic d)
theorem breakInsertion (h : Kept a d) : Kept a (breakInsertion d) := h.edit (breakInsertion_traffic d)
theorem searchHit (h : Kept a d) (p s : Nat) : Kept a (searchHit p s d) := h.edit (searchHit_traffic p s d)
theorem lockLost (h : Kept a d) : Kept a (lockLost d) := h.edit (lockLost_traffic d)
theorem zeroInFlight (h : Kept a d) : Kept a (zeroInFlight d) := h.edit (zeroInFlight_traffic d)
theorem abandonEdits (h : Kept a d) : Kept a (abandonEdits d) := h.edit (abandonEdits_traffic d)
theorem cancelEdits (h : Kept a d) : Kept a (cancelEdits d) := h.edit (cancelEdits_traffic d)
theorem reapTail (h : Kept a d) : Kept a (reapTail d).1 := h.edit (reapTail_traffic d)
theorem placePost (h : Kept a d) (who : Poster) (post : EditPost) : Kept a (placePost who post d).1 :=
  h.edit (placePost_traffic who post d)
theorem cancelEntry (h : Kept a d) (who : Poster) (tag : Byte) : Kept a (cancelEntry who tag d).1 :=
  h.edit (cancelEntry_traffic who tag d)

theorem putSlotEntry (h : Kept a d) (k : Nat) (e : SlotEntry) : Kept a (putSlotEntry k e d) :=
  h.edit (putSlotEntry_traffic k e d)
theorem putRelay (h : Kept a d) (k : Nat) (r : Relay) : Kept a (putRelay k r d) := h.setGate (by simp)
theorem setQueue (h : Kept a d) {q : List Queued} (hq : d.link.queue.length ≤ 8 → q.length ≤ 8) :
    Kept a (setQueue q d) := h.setLink hq
theorem join (h : Kept a d) (m : Queued) (hd : d.link.queue.length < 8) :
    Kept a (Machine.setQueue (joinQueue m d.link.queue) d) :=
  h.setQueue (fun _ => by rw [joinQueue_length]; exact hd)
theorem queueRelease (h : Kept a d) (k : Nat) (o : MessageOrigin) (hd : d.link.queue.length < 8) :
    Kept a (queueRelease k o d) := h.edit (queueRelease_traffic k o d hd)
theorem fillPlace (h : Kept a d) : Kept a (fillPlace d) := h.edit (fillPlace_traffic d)
theorem fillPlaces (h : Kept a d) (n : Nat) : Kept a (fillPlaces n d) := h.edit (fillPlaces_traffic n d)
theorem withdrawFirst (h : Kept a d) (p : Queued → Bool) : Kept a (withdrawFirst p d) :=
  h.edit (withdrawFirst_traffic p d)
theorem reportSent (h : Kept a d) (p : Nat) : Kept a (reportSent p d) := h.edit (reportSent_traffic p d)

/-! ### Chase Unit (09) -/

theorem moveChase (h : Kept a d) (c : Chase) (cause : ChaseCause) (error : Option Int) :
    Kept a (moveChase c cause error d) :=
  (Kept.setChase (.ite h.lockLost h) c).raise _

theorem enterHoldover (h : Kept a d) (cause : ChaseCause) : Kept a (enterHoldover cause d) :=
  .ite (h.moveChase _ _ _) h
theorem leadFreed (h : Kept a d) (k : Nat) : Kept a (leadFreed k d) := .ite (h.enterHoldover _) h
theorem leadSilent (h : Kept a d) : Kept a (leadSilent d) := .ite (h.enterHoldover _) h
theorem holdoverExpiry (h : Kept a d) : Kept a (holdoverExpiry d) := .ite (h.moveChase _ _ _) h
theorem countChasePeriod (h : Kept a d) : Kept a (countChasePeriod d) := h.setChase _
theorem latchOwn (h : Kept a d) : Kept a (latchOwn d) := h.setChase _
theorem endChase (h : Kept a d) : Kept a (endChase d) := .ite h (h.moveChase _ _ _)

theorem requestChase (h : Kept a d) (body : List Byte) : ∀ {x : Device}, requestChase body d = some x → Kept a x := by
  unfold Machine.requestChase
  intro x hx
  dsimp only at hx
  split at hx
  · simp at hx
  · split at hx <;> simp only [Option.some.injEq] at hx <;> subst hx
    · exact h.setChase _
    · exact h.moveChase _ _ _

theorem takeLeadWord (h : Kept a d) (w : StatusWord) : Kept a (takeLeadWord w d) := by
  unfold Machine.takeLeadWord
  dsimp only
  split
  · exact h
  · split
    · exact h.moveChase _ _ _
    · exact h.setChase _

theorem offerLeadWord (h : Kept a d) (k : Nat) (w : StatusWord) : Kept a (offerLeadWord k w d) :=
  .ite (h.takeLeadWord w) h

/-! ### Slot Table (08) -/

theorem stopDriving (h : Kept a d) (k : Nat) : Kept a (stopDriving k d) := h.putRelay k _
theorem freeEntry (h : Kept a d) (k : Nat) (keep : Bool) (cause : SlotCause) : Kept a (freeEntry k keep cause d) :=
  (((h.putSlotEntry k _).raise _).stopDriving k).leadFreed k

theorem withdrawClaim (h : Kept a d) (k : Nat) : Kept a (withdrawClaim k d) :=
  .ite (((h.putSlotEntry k _).withdrawFirst _).raise _) h

theorem claimCompletes (h : Kept a d) (k s : Nat) : Kept a (claimCompletes k s d) := by
  unfold Machine.claimCompletes
  dsimp only
  split
  · exact h
  · exact .ite ((((h.putSlotEntry k _).raise _).stopDriving k).raise _)
      (((h.putSlotEntry k _).raise _).withdrawClaim k)

theorem releaseCompletes (h : Kept a d) (k s : Nat) : Kept a (releaseCompletes k s d) := .ite (h.freeEntry ..) h

theorem overruled (h : Kept a d) (k : Nat) : Kept a (overruled k d) :=
  (((h.putSlotEntry k _).stopDriving k).withdrawFirst _).raise _

theorem validWordAtTable (h : Kept a d) (k : Nat) (w : StatusWord) : Kept a (validWordAtTable k w d) := by
  unfold Machine.validWordAtTable
  dsimp only
  split
  · exact .ite h (((h.putSlotEntry k _).raise _).withdrawClaim k)
  · exact .ite (h.putSlotEntry k _) (.ite (h.putSlotEntry k _)
      (.ite (((h.putSlotEntry k _).raise _).overruled k) ((h.putSlotEntry k _).raise _)))

theorem doubleDrive (h : Kept a d) (k : Nat) : Kept a (doubleDrive k d) := by
  unfold Machine.doubleDrive
  dsimp only
  have k1 := ((h.putSlotEntry k { slotEntry k d with drive := some .stopped }).stopDriving k).raise
    (.slotLost k .doubleDrive)
  split
  · split
    · split
      · next hq => exact k1.queueRelease _ _ (queueTakes_length hq)
      · exact k1.putSlotEntry k _
    · exact k1
  · exact h

theorem invalidWordAtTable (h : Kept a d) (k : Nat) : Kept a (invalidWordAtTable k d) := by
  unfold Machine.invalidWordAtTable
  dsimp only
  split
  · exact h
  · exact (h.putSlotEntry k _).doubleDrive k

theorem wordCompletes (h : Kept a d) (k : Nat) (w : BitVec 64) : Kept a (wordCompletes k w d) :=
  .ite ((h.validWordAtTable k _).offerLeadWord k _) (h.invalidWordAtTable k)

theorem slotTimeout (h : Kept a d) (k : Nat) : Kept a (slotTimeout k d) := .ite (h.freeEntry ..) h
theorem takePresentBit (h : Kept a d) (k : Nat) (b : Bool) : Kept a (takePresentBit k b d) :=
  .ite ((h.putSlotEntry k _).slotTimeout k) (h.putSlotEntry k _)

theorem clearEntry (h : Kept a d) (k : Nat) : Kept a (clearEntry d k) := by
  have k1 := (h.stopDriving k).putSlotEntry k SlotEntry.free
  have k2 : Kept a (if (slotEntry k d).owner = some (ownStation d) then
      Machine.raise (.slotLost k .detached) (Machine.putSlotEntry k SlotEntry.free (Machine.stopDriving k d))
      else Machine.putSlotEntry k SlotEntry.free (Machine.stopDriving k d)) := .ite (k1.raise _) k1
  unfold Machine.clearEntry
  dsimp only
  generalize (if (slotEntry k d).owner = some (ownStation d) then
      Machine.raise (.slotLost k .detached) (Machine.putSlotEntry k SlotEntry.free (Machine.stopDriving k d))
      else Machine.putSlotEntry k SlotEntry.free (Machine.stopDriving k d)) = x at k2 ⊢
  have k3 : Kept a (if (slotEntry k d).ownClaim then Machine.raise (.claimResult k (some .detached)) x else x) :=
    .ite (k2.raise _) k2
  exact .ite (k3.leadFreed k) k3

theorem clearTable (h : Kept a d) : Kept a (clearTable d) := by
  unfold Machine.clearTable
  dsimp only
  have k : Kept a ((List.range 12).foldl Machine.clearEntry d) := Kept.fold (fun k => k.clearEntry _) _ h
  exact k.setQueue (fun hq => Nat.le_trans (List.length_filter_le _ _) hq)

/-! ### Link Port (07) -/

theorem enterAttached (h : Kept a d) (cause : LinkCause) (r : Receiver) : Kept a (enterAttached cause r d) := by
  unfold Machine.enterAttached
  refine Kept.fillPlaces (Kept.raise (Kept.setLink h ?_) _) _
  exact id

theorem enterListen (h : Kept a d) (cause : LinkCause) : Kept a (enterListen cause d) := by
  unfold Machine.enterListen
  refine Kept.raise (Kept.setLink h ?_) _
  exact id

theorem leaveAttached (h : Kept a d) (cause : LinkCause) : Kept a (leaveAttached cause d) := by
  unfold Machine.leaveAttached
  refine Kept.clearTable (Kept.enterListen (Kept.setLink h ?_) cause)
  exact fun hq => by simpa using hq

theorem emptyQueue (h : Kept a d) : Kept a (emptyQueue d) := by
  refine Kept.setQueue (Kept.fold (fun {d m} k => ?_) _ h) (fun _ => by simp)
  unfold returnReport
  split
  · exact k.updateEntry _ _
  · exact k

theorem restartLink (h : Kept a d) : Kept a (restartLink d) := by
  unfold Machine.restartLink
  dsimp only
  split
  · exact h
  · exact .ite ((h.enterHoldover _).leaveAttached _).emptyQueue ((h.enterHoldover _).enterListen _).emptyQueue
  · exact (((h.enterHoldover _).leaveAttached _).emptyQueue).enterAttached _ _

theorem startLink (h : Kept a d) : Kept a (startLink d) := by
  unfold Machine.startLink
  split
  · exact h
  · exact h.enterListen _
  · exact h.enterAttached _ _

theorem found (h : Kept a d) : Kept a (found d) := .ite (h.enterAttached _ _) h
theorem endAlign (h : Kept a d) (m : Bool) : Kept a (endAlign m d) := .ite (h.enterAttached _ _) (h.enterListen _)

theorem takeMarker (h : Kept a d) (m : Bool) : Kept a (takeMarker m d) := by
  unfold Machine.takeMarker
  split
  · exact h
  · split
    · refine Kept.raise (Kept.setLink h ?_) _
      exact id
    · refine Kept.setLink h ?_
      exact id
  · have k : Kept a (d.setLink { d.link with alignCount := d.link.alignCount + 1 }) := by
      refine Kept.setLink h ?_
      exact id
    dsimp only
    generalize d.setLink { d.link with alignCount := d.link.alignCount + 1 } = x at k ⊢
    split
    · exact k.endAlign m
    · split
      · exact k.enterListen _
      · exact k
  · split
    · split
      · exact h.leaveAttached _
      · refine Kept.setLink h ?_
        exact id
    · exact h

theorem updateOnLink (h : Kept a d) (f : Queued → Queued) : Kept a (updateOnLink f d) :=
  h.setQueue (fun hq => by simpa using hq)

theorem removeOnLink (h : Kept a d) : Kept a (removeOnLink d) :=
  h.setQueue (fun hq => Nat.le_trans (List.length_eraseP_le) hq)

theorem putFirstOnLink (h : Kept a d) : Kept a (putFirstOnLink d) := by
  unfold Machine.putFirstOnLink
  split
  · next hq => exact h.setQueue (fun k => by simpa [hq] using k)
  · exact h

theorem startFrame (h : Kept a d) : Kept a (startFrame d) :=
  .ite (Kept.setLink (.ite h.putFirstOnLink h) id) (.ite h.putFirstOnLink h)

theorem completeSend (h : Kept a d) : Kept a (completeSend d) := by
  unfold Machine.completeSend
  split
  · exact h
  · dsimp only
    have k := h.removeOnLink.setLink (x := { (Machine.removeOnLink d).link with yieldCount := 3, echoRun := 0 }) id
    refine Kept.fillPlace ?_
    split
    · exact k.reportSent _
    · exact k

theorem releaseDropped (h : Kept a d) (k : Nat) : Kept a (releaseDropped k d) :=
  .ite (h.freeEntry ..) (h.putSlotEntry k _)

theorem dropEffect (h : Kept a d) (m : Queued) : Kept a (dropEffect m d) := by
  unfold Machine.dropEffect
  split
  · exact (h.putSlotEntry _ _).raise _
  · exact h.releaseDropped _
  · exact h.releaseDropped _
  · exact h.reportSent _
  · exact h
  · exact h

theorem dropMessage (h : Kept a d) : Kept a (dropMessage d) := by
  unfold Machine.dropMessage
  split
  · exact h
  · exact (((h.setQueue (fun hq => Nat.le_trans List.length_eraseP_le hq)).raise _).dropEffect _).fillPlace

theorem loseSend (h : Kept a d) : Kept a (loseSend d) := by
  unfold Machine.loseSend
  split
  · exact h
  · exact .ite h.removeOnLink.fillPlace (.ite (h.updateOnLink _).dropMessage (h.updateOnLink _))

theorem echoFaultsReached (h : Kept a d) : Kept a (echoFaultsReached d) := .ite (h.leaveAttached _) h

theorem echoFault (h : Kept a d) : Kept a (echoFault d) := by
  unfold Machine.echoFault
  split
  · exact h
  · dsimp only
    refine Kept.echoFaultsReached (Kept.setLink (Kept.raise ?_ _) id)
    split
    · exact h.removeOnLink.fillPlace
    · exact h.updateOnLink _

theorem compareSent (h : Kept a d) (x y : Bool) : Kept a (compareSent x y d) := by
  unfold Machine.compareSent
  split
  · exact h
  · exact .ite (.ite h.completeSend (h.updateOnLink _)) (.ite h.loseSend h.echoFault)

theorem countBad (h : Kept a d) : Kept a (countBad d) := h.setLink id
theorem receiverIdle (h : Kept a d) : Kept a (receiverIdle d) := h.setLink id

theorem refusePost (h : Kept a d) (s : Nat) (tag : Byte) (r : Nat) : Kept a (refusePost s tag r d) := by
  unfold Machine.refusePost
  split
  · next hq => exact h.join _ (queueTakes_length hq)
  · exact h

theorem takeLinkPost (h : Kept a d) (s : Nat) (body : List Byte) : Kept a (takeLinkPost s body d) := by
  unfold Machine.takeLinkPost
  dsimp only
  split
  · exact h.refusePost ..
  · next post _ =>
    have k := h.placePost (.station s) post
    split
    · next hp => rw [hp] at k; exact k
    · exact h.refusePost ..
    · exact h.refusePost ..

theorem handOn (h : Kept a d) (kind : Nat) (m : LinkMessage) : Kept a (handOn kind m d) := by
  refine .ite (h.takeLinkPost ..) (.ite (h.cancelEntry ..) (.ite ?_ h))
  cases hx : Machine.requestChase m.body d with
  | none => exact h
  | some x => exact h.requestChase _ hx

theorem acceptMessage (h : Kept a d) (kind : Nat) (m : LinkMessage) : Kept a (acceptMessage kind m d) :=
  .ite h.countBad (.ite (h.claimCompletes ..) (.ite (h.releaseCompletes ..) (.ite h (.ite (h.raise _)
    (h.handOn kind m)))))

theorem receiveBit (h : Kept a d) (b : Bool) : Kept a (receiveBit b d) := by
  unfold Machine.receiveBit
  dsimp only
  split
  · refine Kept.setLink h ?_
    exact id
  · split
    · exact h.receiverIdle.countBad
    · split
      · refine Kept.setLink h ?_
        exact id
      · unfold completeBits
        split
        · exact h.receiverIdle.acceptMessage ..
        · exact h.receiverIdle.countBad

theorem skipBit (h : Kept a d) (b : Bool) : Kept a (skipBit b d) := by
  unfold Machine.skipBit
  dsimp only
  generalize (if b = true then 0 else d.link.skipRun + 1) = run
  split
  · refine Kept.setLink h ?_
    exact id
  · refine Kept.setLink h ?_
    exact id

theorem takeMessageBit (h : Kept a d) (b : Bool) : Kept a (takeMessageBit b d) := by
  unfold Machine.takeMessageBit
  split
  · exact .ite (h.setLink id) (h.setLink id)
  · exact h.receiveBit b
  · exact h.skipBit b

theorem takePresentBits (h : Kept a d) (f : Frame) : Kept a (takePresentBits f d) :=
  Kept.fold (fun k => k.takePresentBit _ _) (List.range 12) h

theorem takeStatusBits (h : Kept a d) (f : Frame) : Kept a (takeStatusBits f d) := by
  unfold Machine.takeStatusBits
  refine Kept.setLink h ?_
  exact id

theorem completeWords (h : Kept a d) : Kept a (completeWords d) :=
  Kept.fold (fun k => k.wordCompletes _ _) (List.range 12) h

theorem advanceFrame (h : Kept a d) : Kept a (advanceFrame d) := by
  unfold Machine.advanceFrame
  refine Kept.setLink h ?_
  exact id

theorem takeSlots (h : Kept a d) (f : Frame) : Kept a (takeSlots f d) := by
  have k := (h.takePresentBits f).takeStatusBits f
  unfold Machine.takeSlots
  dsimp only
  exact Kept.advanceFrame (.ite k.completeWords k)

theorem readControl (h : Kept a d) (x : Bool) (f : Frame) : Kept a (readControl x f d) :=
  .ite (.ite ((((h.takeMarker _).compareSent _ _).takeMessageBit _).takeSlots f)
    ((h.takeMarker _).compareSent _ _)) (h.takeMarker _)

theorem storeReceived (h : Kept a d) (b : Bool) (f : Frame) : Kept a (storeReceived b f d) := h.setLink id

theorem messageArrives (h : Kept a d) (kind : Nat) (m : LinkMessage) : Kept a (messageArrives kind m d) := by
  unfold Machine.messageArrives
  refine .ite ?_ h
  dsimp only
  exact Kept.acceptMessage (Kept.receiverIdle (.ite h.completeSend h)) ..

/-! ### Copy Gate (06) and encoder (02) -/

theorem setRecordedRun (h : Kept a d) (r : Option CopyStatus) : Kept a (setRecordedRun r d) := h.setGate rfl
theorem latchGate (h : Kept a d) (n : Nat) (s : Source) (x : CopyStatus) : Kept a (latchGate n s x d) :=
  (h.updateSegment n _).setRecordedRun _

theorem reportDecision (h : Kept a d) (n : Nat) (m : Mode) (c : Option CopyCause) :
    Kept a (reportDecision n m c d) := by
  have k : Kept a (match c with | some x => Machine.raise (.copyRefused n m x) d | none => d) := by
    split
    · exact h.raise _
    · exact h
  exact Kept.setGate (.ite k (k.raise _)) rfl

theorem latchSlot (h : Kept a d) (k : Nat) (x : CopyStatus) : Kept a (latchSlot k x d) :=
  .ite ((h.putRelay k _).putSlotEntry k _) (h.putRelay k _)

theorem startEncode (h : Kept a d) : Kept a (startEncode d) := by
  unfold Machine.startEncode
  split
  · exact h.setEncoder _
  · exact h

theorem storeEncode (h : Kept a d) (job : EncodeJob) : Kept a (storeEncode job d) := by
  unfold Machine.storeEncode
  split
  · exact h
  · exact .ite (Kept.freeSlot (.ite h (h.writeLate _)) _) (h.putSegment _)

theorem completeEncode (h : Kept a d) : Kept a (completeEncode d) := by
  unfold Machine.completeEncode
  split
  · exact h
  · exact ((h.setEncoder _).storeEncode _).startEncode

theorem sealRecord (h : Kept a d) (n : Nat) : Kept a (sealRecord n d) := by
  unfold Machine.sealRecord
  split
  · exact h
  · exact ((h.reportDecision _ _ _).putSegment _).startEncode

theorem markAt (h : Kept a d) (n p : Nat) : Kept a (markAt n p d) := h.updateResult ..
theorem finishMark (h : Kept a d) (n p : Nat) : Kept a (finishMark n d p) := (h.markAt n p).retire p _

theorem assignLink (h : Kept a d) (n : Nat) : Kept a (assignLink n d) := by
  have link (p : Nat) : Kept a (Machine.updateResult p (fun x => { x with inFlight := x.inFlight + 1, last := some n })
      (Machine.updateSegment n (fun r => { r with editLink := some p }) d)) :=
    (h.updateSegment n _).updateResult p _
  unfold Machine.assignLink
  dsimp only
  split
  · exact Kept.fold (fun k => k.finishMark n _) _ (link _)
  · exact Kept.fold (fun k => k.finishMark n _) _ ((link _).markAt n _)
  · exact h

theorem testSealing (h : Kept a d) (n : Nat) : Kept a (testSealing n d) := .ite (h.writeLate n) h

theorem refuseTouched (h : Kept a d) : Kept a (refuseTouched d) := by
  unfold Machine.refuseTouched
  refine Kept.fold (fun k => k.retire _ _) _ ?_
  split
  · exact .ite (h.updateEntry _ _).dropInsertion ((h.updateEntry _ _).skipChain _).reconsider
  · exact h

theorem sealInsert (h : Kept a d) (n : Nat) : Kept a (sealInsert n d) := by
  unfold Machine.sealInsert
  split
  · exact h
  · split
    · exact ((h.reportDecision _ _ _).freeSlot n).refuseTouched
    · exact ((((h.reportDecision _ _ _).putSegment _).assignLink n).testSealing n).startEncode

/-! ### Concealment Unit (04) -/

theorem putContext (h : Kept a d) (c : ContextId) (x : Context) : Kept a (putContext c x d) := by
  unfold Machine.putContext
  split <;> exact h.setConceal rfl

theorem mute (h : Kept a d) (c : ContextId) : Kept a (mute c d) :=
  .ite (((h.putContext c _).countUp _ _ _).raise _) h
theorem recoveryComplete (h : Kept a d) (c : ContextId) : Kept a (recoveryComplete c d) := .ite (h.putContext c _) h
theorem fadeInComplete (h : Kept a d) (c : ContextId) : Kept a (fadeInComplete c d) := .ite (h.putContext c _) h

theorem conceal (h : Kept a d) (c : ContextId) (pos : Position) (r : Option Segment) (s : ReadSample) :
    Kept a (conceal c pos r s d).1 := by
  unfold Machine.conceal
  exact ((Kept.mute (.ite (h.putContext c _) ((h.putContext c _).countUp _ _ _)) c).recoveryComplete c).fadeInComplete c

theorem startContext (h : Kept a d) (c : ContextId) : Kept a (startContext c d) := h.putContext c _
theorem startPlayContexts (h : Kept a d) : Kept a (startPlayContexts d) := (h.startContext _).startContext _
theorem startAllContexts (h : Kept a d) : Kept a (startAllContexts d) :=
  (h.startPlayContexts.startContext _).startContext _

/-! ### Playouts and fill (01, 05) -/

theorem setPlay (h : Kept a d) (p : PlayPlayout) : Kept a (setPlay p d) := h.setRing rfl
theorem setConf (h : Kept a d) (p : ConfPlayout) : Kept a (setConf p d) := h.setRing rfl
theorem enterPlayout (h : Kept a d) (r : Segment) : Kept a (enterPlayout r d) := by
  unfold Machine.enterPlayout
  refine Kept.putSegment (Kept.setDecoder h ?_) _
  exact id

theorem enterConfOut (h : Kept a d) (r : Segment) : Kept a (enterConfOut r d) := by
  unfold Machine.enterConfOut
  refine Kept.putSegment (Kept.setDecoder h ?_) _
  exact id

theorem stopPlay (h : Kept a d) : Kept a (stopPlay d) := by
  unfold Machine.stopPlay
  split
  · exact h
  · refine Kept.setDecoder (h.setPlay _).startPlayContexts ?_
    exact id

theorem prefillEntry (h : Kept a d) : Kept a (prefillEntry d) := .ite (h.setPlay _) h

theorem prefillTest (h : Kept a d) : Kept a (prefillTest d) := by
  unfold Machine.prefillTest
  refine .ite ?_ h
  split
  · exact h
  · refine .ite ?_ ?_
    · unfold startPlay
      split
      · exact h
      · exact ((h.enterPlayout _).setPlay _).reconsider
    · unfold discardStale
      split
      · exact .ite (h.freeSlot _) h
      · exact h

theorem takeEditOffset (h : Kept a d) (pos : Position) : Kept a (takeEditOffset pos d) := h.updateSegment ..

theorem firePunchIn (h : Kept a d) (p : Nat) (e : Entry) (q : FiringPair) : Kept a (firePunchIn p e q d) := by
  unfold Machine.firePunchIn
  refine Kept.rederive (Kept.takeEditOffset (Kept.setEdit (h.updateEntry p _) ?_ ?_ ?_ ?_) _)
  exact rfl
  exact id
  exact id
  exact rfl

theorem fireMark (h : Kept a d) (p : Nat) (q : FiringPair) : Kept a (fireMark p q d) :=
  (((h.updateEntry p _).setTouch _).updateSegment _ _).rederive

theorem firePunchOut (h : Kept a d) (p : Nat) (e : Entry) : Kept a (firePunchOut p e d) := by
  unfold Machine.firePunchOut
  refine Kept.rederive (Kept.setEdit (h.updateEntry p _) ?_ ?_ ?_ ?_)
  exact rfl
  exact id
  exact id
  exact rfl

theorem fireEntry (h : Kept a d) (p : Nat) (e : Entry) (q : FiringPair) : Kept a (fireEntry p e q d) := by
  unfold Machine.fireEntry
  split
  · exact (h.retireUnfired p _).rederive
  · split
    · exact h.firePunchIn p e q
    · exact h.fireMark p q
    · exact h.firePunchOut p e

theorem fireAt (q : FiringPair) : ∀ (n : Nat) {d : Device}, Kept a d → Kept a (fireAt q n d)
  | 0, _, h => h
  | n + 1, d, h => by
    unfold Machine.fireAt
    dsimp only
    split
    · split
      · exact .ite (fireAt q n (h.reconsider.fireEntry _ _ q)) h.reconsider
      · exact h.reconsider
    · exact h.reconsider

theorem insertFadeInEnd (h : Kept a d) : Kept a (insertFadeInEnd d) := by
  unfold Machine.insertFadeInEnd
  split
  · exact .ite (h.setEdit rfl id id rfl) h
  · exact h

theorem insertFadeOutEnd (h : Kept a d) : Kept a (insertFadeOutEnd d) := by
  unfold Machine.insertFadeOutEnd
  split
  · exact .ite (h.endInsertion true) h
  · exact h

theorem touchSegment (h : Kept a d) (pos : Position) (g : Nat) (feed : Feed) : Kept a (touchSegment pos g feed d) :=
  ((h.updateSegment _ _).setTouch _).latchGate _ _ _

theorem markEdge (h : Kept a d) (pos : Position) (clean : Bool) : Kept a (markEdge pos clean d) := by
  unfold Machine.markEdge
  split
  · exact .ite ((h.takeEditOffset pos).updateResult _ _) h
  · exact h

/-- The sequencer's fade stepped by one pair: its stores stand. -/
theorem stepped (h : Kept a d) (g : Nat) : Kept a (d.setEdit { (mixGain d).2 with gain := g }) := by
  have : ∀ e : Edit, (mixGain d).2 = e → e.places = d.edit.places ∧ e.tail = d.edit.tail ∧ e.head = d.edit.head ∧
      e.fadeTable = d.edit.fadeTable := by
    intro e he
    subst he
    unfold mixGain
    dsimp only
    split
    · exact ⟨rfl, rfl, rfl, rfl⟩
    · exact ⟨rfl, rfl, rfl, rfl⟩
    · split <;> exact ⟨rfl, rfl, rfl, rfl⟩
    · exact ⟨rfl, rfl, rfl, rfl⟩
  obtain ⟨h1, h2, h3, h4⟩ := this _ rfl
  exact h.setEdit (by simp [h1]) (by simp [h2]) (by simp [h3]) (by simp [h4])

theorem mixAt (h : Kept a d) (pos : Position) (clean : Bool) (feed : Feed) (p : Pair) :
    Kept a (mixAt pos clean feed p d).1 := by
  unfold Machine.mixAt
  split
  · exact h.setEdit rfl id id rfl
  · have k := (h.markEdge pos clean).stepped (mixGain (Machine.markEdge pos clean d)).1
    exact Kept.insertFadeOutEnd (Kept.insertFadeInEnd (.ite (k.touchSegment ..) k))

theorem storeDelivered (h : Kept a d) (pos : Position) (p : Pair) (x y : Mark) :
    Kept a (storeDelivered pos p x y d) := h.updateSegment ..

theorem deliverPlay (h : Kept a d) (feed : Feed) : Kept a (deliverPlay feed d).1 := by
  unfold Machine.deliverPlay
  dsimp only
  refine Kept.setPlay ?_ _
  split
  · exact Kept.storeDelivered (Kept.mixAt (Kept.fireAt _ 33 (Kept.conceal (Kept.conceal h ..) ..)) ..) ..
  · exact Kept.mixAt (Kept.fireAt _ 33 (Kept.conceal (Kept.conceal h ..) ..)) ..

theorem playPeriod (h : Kept a d) (feed : Feed) : Kept a (playPeriod feed d).1 := by
  unfold Machine.playPeriod
  split
  · exact h.deliverPlay feed
  · exact h

theorem confPeriod (h : Kept a d) : Kept a (confPeriod d).1 := by
  unfold Machine.confPeriod
  split
  · exact Kept.setConf (Kept.storeDelivered (Kept.conceal (Kept.conceal h ..) ..) ..) _
  · exact h

theorem dispose (h : Kept a d) (n : Nat) : Kept a (dispose n d) := by
  unfold Machine.dispose
  split
  · exact h
  · exact .ite (Kept.fold (fun k => k.retire _ _) _ (h.freeSlot n)) (.ite (h.freeSlot n) (h.sealInsert n))

theorem overtakeStripes (h : Kept a d) (n : Nat) : Kept a (overtakeStripes n d) := by
  unfold Machine.overtakeStripes
  refine Kept.setDecoder h (fun k => ?_)
  rw [List.length_map]
  exact k

theorem takeNext (h : Kept a d) (n : Nat) : Kept a (takeNext n d) := by
  unfold Machine.takeNext
  split
  · exact h.enterPlayout _
  · refine .ite (h.enterPlayout _) (.ite ((h.overtakeStripes _).enterPlayout _) (Kept.breakInsertion ?_))
    unfold freeStaleBlock
    split
    · exact .ite (h.freeSlot _) h
    · exact h

theorem closeBoundary (h : Kept a d) : Kept a (closeBoundary d) :=
  ((h.setTouch _).setRecordedRun _).retireTests.reconsider

theorem playSegmentEnd (h : Kept a d) : Kept a (playSegmentEnd d) :=
  .ite (.ite (((h.dispose _).closeBoundary.takeNext _).setPlay _) ((h.dispose _).closeBoundary.stopPlay.setPlay _)) h

theorem takeChecked (h : Kept a d) : Kept a (takeChecked d) := by
  unfold Machine.takeChecked
  split
  · exact (h.enterConfOut _).setConf _
  · exact h.setConf _

theorem confStart (h : Kept a d) : Kept a (confStart d) := .ite h h.takeChecked
theorem confSegmentEnd (h : Kept a d) : Kept a (confSegmentEnd d) := .ite (h.freeSlot _).takeChecked h

/-- Leaving RECORD: the mode is PLAY and the recorder IDLE, whatever they were. -/
theorem leaveRecord (h : Kept a d) : Kept a (leaveRecord d) where
  ring := (h.freeStates [.fill]).ring
  tables := (h.freeStates [.fill]).tables
  recorder := fun _ _ => rfl
  queues := (h.freeStates [.fill]).queues

theorem numberLimit (h : Kept a d) : Kept a (numberLimit d) := h.leaveRecord.raise _

theorem startFill (h : Kept a d) (n : Nat) (s : Source) : Kept a (startFill n s d) := by
  unfold Machine.startFill
  dsimp only
  have k := (h.setRecorder (x := { d.recorder with fillOrigin := some (originOf s) }) id).setRecordedRun none
  split
  · exact (k.putSegment _).setRecorder id
  · exact k.raise _

theorem storeFill (h : Kept a d) (pos : Position) (feed : Feed) : Kept a (storeFill pos feed d) := by
  unfold Machine.storeFill
  split
  · exact (h.updateSegment _ _).latchGate _ _ _
  · exact h

theorem recordSealing (h : Kept a d) : Kept a (recordSealing d) := by
  unfold Machine.recordSealing
  split
  · exact .ite (.ite ((h.sealRecord _).setRecorder id) (h.sealRecord _).numberLimit) h
  · exact h

theorem fillPeriod (h : Kept a d) (feed : Feed) : Kept a (fillPeriod feed d) := by
  unfold Machine.fillPeriod
  split
  · refine .ite (Kept.setRecorder (Kept.storeFill (.ite (h.startFill _ _) h) _ _) ?_) h
    exact id
  · exact h

theorem settleEnds (h : Kept a d) : Kept a (settleEnds d) := h.playSegmentEnd.confSegmentEnd.recordSealing

/-! ### Decoder and Search Unit (03), windows (02) -/

theorem putPattern (h : Kept a d) (i : Nat) (p : Pattern) : Kept a (putPattern i p d) := h.setSearch (by simp)

theorem comparePattern (h : Kept a d) (x : Subcode) (s i : Nat) : Kept a (comparePattern x s d i) :=
  .ite (.ite (.ite (((h.putPattern i _).raise _).searchHit i s) (h.putPattern i _)) (h.putPattern i _)) h

theorem settleAwaited (h : Kept a d) (s : Nat) : Kept a (settleAwaited s d) := by
  unfold Machine.settleAwaited
  split
  · exact .ite h (h.setSearch (by simp))
  · exact h

theorem searchStripe (h : Kept a d) (s : Nat) (x : Option Subcode) : Kept a (searchStripe s x d) := by
  unfold Machine.searchStripe
  refine .ite h ?_
  split
  · exact Kept.setSearch (Kept.fold (fun k => k.comparePattern _ s _) (List.range 4) (h.settleAwaited s)) rfl
  · exact Kept.setSearch (h.settleAwaited s) rfl

theorem closeChecked (h : Kept a d) (n : Nat) : Kept a (closeChecked n d) := by
  unfold Machine.closeChecked
  split
  · exact h
  · dsimp only
    split
    · exact (h.putSegment _).updateResult _ _
    · exact h.putSegment _

theorem testClosing (h : Kept a d) (st : TapeStream) (n : Nat) : Kept a (testClosing st n d) := by
  cases st
  · show Kept a (testGather n d)
    unfold testGather
    split
    · exact .ite (h.putSegment _) h
    · exact h
  · show Kept a (testVerify n d)
    unfold testVerify
    split
    · exact .ite (h.closeChecked n) h
    · exact h

theorem laterClosing (h : Kept a d) (st : TapeStream) (s : Nat) : Kept a (laterClosing st s d) :=
  Kept.fold (fun k => k.testClosing st _) _ h

theorem startDecode (h : Kept a d) : Kept a (startDecode d) := .ite (h.setDecoder id) h

theorem offerStripe (h : Kept a d) (q : QueuedStripe) {taken : Device → Device}
    (ht : ∀ {x : Device}, Kept a x → Kept a (taken x)) : Kept a (offerStripe q taken d) := by
  unfold Machine.offerStripe
  split
  · next hq =>
    refine Kept.startDecode (ht (Kept.setDecoder h (fun _ => ?_)))
    rw [List.length_append, List.length_singleton]
    exact hq
  · exact h.raise _

theorem ringAdvance (h : Kept a d) (q : QueuedStripe) : Kept a (ringAdvance q d) := by
  unfold Machine.ringAdvance
  refine .ite h ?_
  split
  · exact h.offerStripe q (fun k => k.putSegment _)
  · exact .ite (.ite h (h.offerStripe q (fun k => k.putSegment _))) (h.raise _)

theorem ringConfidence (h : Kept a d) (q : QueuedStripe) : Kept a (ringConfidence q d) := by
  unfold Machine.ringConfidence
  split
  · exact h
  · split
    · exact h.offerStripe q (fun k => k.putSegment _)
    · exact .ite h (h.offerStripe q (fun k => k.putSegment _))
    · exact h

theorem setExpectation (h : Kept a d) (st : TapeStream) (e : Expectation) : Kept a (setExpectation st e d) := by
  cases st
  · exact h.setDecoder id
  · exact h.setDecoder id

theorem stripeArrives (h : Kept a d) (st : TapeStream) (head : Head) (blocks : List BlockRecord) :
    Kept a (stripeArrives st head blocks d) := by
  unfold Machine.stripeArrives
  refine .ite h ?_
  split
  · exact h
  · dsimp only
    split
    · exact ((((h.setExpectation _ _).searchStripe _ _).laterClosing _ _).ringAdvance _)
    · exact ((h.setExpectation _ _).laterClosing _ _).ringConfidence _

theorem countDecode (h : Kept a d) (st : TapeStream) (t : Tally) : Kept a (countDecode st t d) :=
  ((h.countUp _ _ _).countUp _ _ _).countUp _ _ _

theorem judgeCompletion (h : Kept a d) (q : QueuedStripe) : Kept a (judgeCompletion q d) := by
  unfold Machine.judgeCompletion
  split
  · exact .ite h ((h.putSegment _).testClosing _ _)
  · exact h

theorem completeDecode (h : Kept a d) : Kept a (completeDecode d) := by
  unfold Machine.completeDecode
  split
  · next hq =>
    refine Kept.startDecode (Kept.judgeCompletion (Kept.countDecode (h.setDecoder (fun k => ?_)) _ _) _)
    rw [hq] at k
    exact Nat.le_of_succ_le k
  · exact h

theorem answerWindow (h : Kept a d) (x : WindowAnswer) : Kept a (answerWindow x d) := h.setOutputs _

theorem windowA (h : Kept a d) (n : Nat) : Kept a (windowA n d) := by
  unfold Machine.windowA
  split
  · exact h.answerWindow _
  · split
    · exact .ite (h.answerWindow _) ((h.putSegment _).answerWindow _)
    · exact (h.writeLate n).answerWindow _
    · exact .ite ((h.writeLate n).answerWindow _) (((h.writeLate n).freeSlot n).answerWindow _)
    · exact h.answerWindow _

theorem strand (h : Kept a d) (n : Nat) : Kept a (strand d n) := by
  unfold Machine.strand
  split
  · exact .ite h ((h.writeLate n).freeSlot n)
  · exact h

theorem freeUnverified (h : Kept a d) (n : Nat) (r : Segment) : Kept a (freeUnverified n r d) := by
  refine Kept.freeSlot ?_ n
  split
  · exact h.updateResult _ _
  · exact h

theorem deadline (h : Kept a d) (n : Nat) : Kept a (deadline d n) := by
  unfold Machine.deadline
  split
  · exact h
  · split
    · exact h.freeUnverified n _
    · exact .ite (h.freeUnverified n _) h
    · exact h.closeChecked n
    · exact h

theorem fixOrigin (h : Kept a d) (n : Nat) : Kept a (fixOrigin n d) := by
  unfold Machine.fixOrigin
  split
  · next hs => exact .ite (h.setRecorder (fun k => by rw [hs] at k; simp at k)) h.numberLimit
  · exact h

theorem takeWindowA (h : Kept a d) (n : Nat) : Kept a (takeWindowA n d) := by
  unfold Machine.takeWindowA
  refine .ite (h.answerWindow _) (Kept.fixOrigin ?_ n)
  exact Kept.fold (fun k => k.deadline _) _ (Kept.fold (fun k => k.strand _) _ ((h.windowA n).setEncoder _))

theorem takeWindowB (h : Kept a d) (n : Nat) : Kept a (takeWindowB n d) := by
  unfold Machine.takeWindowB
  refine .ite (h.answerWindow _) ?_
  split
  · exact .ite ((h.putSegment _).answerWindow _) (h.answerWindow _)
  · exact h.answerWindow _

/-! ### The period -/

theorem noteFeed (h : Kept a d) (f : Feed) : Kept a (noteFeed f d) := h.setGate rfl
theorem transferOutputs (h : Kept a d) (u : Supply) : Kept a (transferOutputs u d) := (h.setOutputs _).setRouter rfl

theorem deliver (h : Kept a d) (line : Pair) (received : List Pair) : Kept a (deliver line received d).1 :=
  ((((h.noteFeed _).playPeriod _).confPeriod).fillPeriod _).transferOutputs _

theorem openFrame (h : Kept a d) : Kept a (openFrame d) := by
  have k := h.found
  unfold Machine.openFrame shiftMisplaced
  generalize Machine.found d = x at k ⊢
  refine Kept.startFrame ?_
  split
  · refine Kept.setLink k ?_
    exact id
  · exact k

theorem latchFrame (h : Kept a d) (u : Supply) : Kept a (latchFrame u d) :=
  .ite (Kept.fold (fun k => .ite (k.latchSlot _ _) k) (List.range 12) h).latchOwn h

theorem readLink (h : Kept a d) (f : Frame) (b : Bool) : Kept a (readLink f b d) :=
  .ite (h.readControl b f).latchOwn (h.readControl b f)

theorem runFrame (h : Kept a d) (w : Period) (driving : List Bool) : Kept a (runFrame w driving d).dev := by
  unfold Machine.runFrame
  split
  · exact ((h.deliver _ _).latchFrame _).readLink _ _
  · exact ((h.latchFrame _).deliver _ _).readLink _ _
  · exact ((h.latchFrame _).readLink _ _).deliver _ _

theorem closeFrame {r : FrameResult} (h : Kept a r.dev) (w : Period) (driving : List Bool) :
    Kept a (closeFrame w driving r) := by
  unfold Machine.closeFrame
  refine Kept.setOutputs (Kept.storeReceived ?_ _ _) _
  exact Kept.fold (fun k => .ite (k.putRelay _ _) k) (List.range 12) h

theorem startPlayouts (h : Kept a d) (o : PeriodOrder) : Kept a (startPlayouts o d) :=
  (Kept.ite h.prefillTest.prefillEntry h.prefillEntry.prefillTest).confStart

theorem beginChasePeriod (h : Kept a d) (o : PeriodOrder) : Kept a (beginChasePeriod o d) :=
  .ite h.countChasePeriod.holdoverExpiry h.countChasePeriod

theorem runPeriod (h : Kept a d) (w : Period) : Kept a (runPeriod w d) := by
  unfold Machine.runPeriod
  dsimp only
  have k := ((h.settleEnds.beginChasePeriod w.order).startPlayouts w.order).openFrame
  have k2 := (Kept.closeFrame (k.runFrame w (drivingSlots (Machine.openFrame (Machine.startPlayouts w.order
    (Machine.beginChasePeriod w.order (Machine.settleEnds d))))))
    w (drivingSlots (Machine.openFrame (Machine.startPlayouts w.order
    (Machine.beginChasePeriod w.order (Machine.settleEnds d)))))).leadSilent.holdoverExpiry
  exact .ite k2 k2.settleEnds

/-! ### Control Port (10) -/

/-- The ring emptied: sixteen FREE slots, whatever the playouts become. -/
theorem emptyRing (h : Kept a d) {x : Ring} (hx : x.slots = List.replicate 16 none) : Kept a (d.setRing x) where
  ring _ := by
    refine ⟨by rw [Laws.setRing_ring, hx]; rfl, fun i r hi => ?_⟩
    rw [Laws.setRing_ring, hx, List.getElem?_replicate] at hi
    split at hi
    · simp at hi
    · simp at hi
  tables := h.tables
  recorder := h.recorder
  queues := h.queues

theorem flush (h : Kept a d) : Kept a (flush d) := by
  have k := h.stopPlay.zeroInFlight
  unfold Machine.flush
  dsimp only
  generalize Machine.zeroInFlight (Machine.stopPlay d) = x at k ⊢
  refine Kept.setRecordedRun (Kept.setEncoder (Kept.setDecoder (Kept.emptyRing k ?_) ?_) _) none
  · exact rfl
  · exact id

/-- A mode change from a mode that is not RECORD. -/
theorem setMode (h : Kept a d) (m : Mode) (hm : d.port.mode ≠ .record) : Kept a (setMode m d) where
  ring := h.ring
  tables := h.tables
  recorder k _ := h.recorder k hm
  queues := h.queues

theorem forcePlay (h : Kept a d) (cause : ModeCause) : Kept a (forcePlay cause d) := by
  unfold Machine.forcePlay
  split
  · exact h
  · exact h.leaveRecord.raise _
  · next hm => exact (h.setMode .play (by rw [hm]; simp)).raise _

theorem leavePlaying (h : Kept a d) : Kept a (leavePlaying d) :=
  (h.forcePlay _).flush.startAllContexts.abandonEdits

/-- The mode is RECORD: the recorder is free to be anything. -/
theorem inRecord (h : Kept a d) (x : Recorder) : Kept a ((Machine.setMode .record d).setRecorder x) where
  ring := h.ring
  tables := h.tables
  recorder _ m := absurd rfl m
  queues := h.queues

theorem enterRecord (h : Kept a d) : Kept a (enterRecord d) := by
  have k := ((h.freeStates [.gather, .decoded, .playout]).stopPlay).setTouch Touch.empty
  unfold Machine.enterRecord
  exact k.inRecord _

theorem resetDecoding (h : Kept a d) : Kept a (resetDecoding d) := by
  unfold Machine.resetDecoding
  refine Kept.setSearch (Kept.setDecoder h ?_) ?_
  · exact fun _ => Nat.zero_le _
  · exact List.length_map ..

theorem resetEncoder (h : Kept a d) : Kept a (resetEncoder d) := h.setEncoder _

theorem idled (h : Kept a d) : Kept a (d.setRecorder (idleRecorder d.recorder)) :=
  Kept.setRecorder h (fun _ => rfl)

theorem resetDeck (h : Kept a d) : Kept a (resetDeck d) := by
  unfold Machine.resetDeck
  exact (h.flush.resetDecoding.resetEncoder.startAllContexts.cancelEdits.idled.forcePlay .deckReset).setCounters _

theorem acceptConfiguration (h : Kept a d) (c : Configuration) : Kept a (acceptConfiguration c d) :=
  ((h.setConfig _).setEncoder _).startLink

end Shared

end Kept

end Sys2Proof.Machine
end

