-- ==== Sys2Proof/Laws/Port.lean ====
section
/-! SUPPORT. The control port's exchange: what a complete frame becomes, once for every command. -/

namespace Sys2Proof.Machine

open Sys2Proof

/-- A complete frame of the right length reaches its command's rule (R184). -/
theorem takeCommand_ready {code : Byte} {n : Nat} {args : List Byte} {rule : Device → Device × Response}
    {d : Device} (h : commandReady d) (hl : args.length = n) :
    takeCommand code n args rule d = respond (rule (clockIn code args d)) := by
  obtain ⟨⟨h1, h2⟩, h3⟩ := h
  simp [takeCommand, h1, h2, hl, h3]

/-- CONFIGURE reaches its rule configured or not (R184). -/
theorem takeCommand_configure {args : List Byte} {rule : Device → Device × Response} {d : Device}
    (h : frameOpen d) (hl : args.length = 38) :
    takeCommand 1 38 args rule d = respond (rule (clockIn 1 args d)) := by
  obtain ⟨h1, h2⟩ := h
  simp [takeCommand, h1, h2, hl]

/-- Outside COMMAND, or held in reset, a frame is no command (R183, R193). -/
theorem takeCommand_closed {code : Byte} {n : Nat} {args : List Byte} {rule : Device → Device × Response}
    {d : Device} (h : d.resetHeld = true ∨ d.port.transaction ≠ .command) :
    takeCommand code n args rule d = d := by simp [takeCommand, h]

/-- An answer that leaves the device as it was is `answered`. -/
theorem respond_unchanged (code : Byte) (args : List Byte) (r : Response) (d : Device) :
    respond (clockIn code args d, r) = answered code args r d := rfl

/-- An answer after a change that keeps the frame's octets is `answered` of that change. -/
theorem respond_changed (code : Byte) (args : List Byte) (r : Response) (d : Device)
    (h : d.port.octets = code :: BitVec.ofNat 8 args.length :: args) :
    respond (d, r) = answered code args r d := by simp [respond, answered, Device.setPort, h]

/-- Every kind has its place in the event set. -/
theorem eventKind_lt (e : EventDetail) : eventKind e < 18 := by cases e <;> simp [eventKind]

/-- The set of one kind holds that kind alone. -/
theorem kindBit_getLsbD (i k : Nat) (h : i < 18) : (kindBit i).getLsbD k = decide (i = k) := by
  simp only [kindBit, BitVec.getLsbD_ofNat, Nat.testBit_two_pow]
  by_cases e : i = k
  · subst e; simp [h]
  · simp [e]

/-- A raised event is pending, whatever else is (R189). -/
theorem raise_pending (e : EventDetail) (d : Device) : hasKind (eventKind e) (raise e d).events.pending := by
  simp only [hasKind, raise, Laws.setEvents_events, BitVec.getLsbD_or, kindBit_getLsbD _ _ (eventKind_lt e)]
  simp

/-- A raised event leaves the other kinds as they were (R189). -/
theorem raise_pending_other (e : EventDetail) (k : Nat) (d : Device) (h : k ≠ eventKind e) :
    hasKind k (raise e d).events.pending ↔ hasKind k d.events.pending := by
  simp only [hasKind, raise, Laws.setEvents_events, BitVec.getLsbD_or, kindBit_getLsbD _ _ (eventKind_lt e)]
  simp [Ne.symm h]

/-- The latched detail is that of the raising (R189). -/
theorem raise_latched (e : EventDetail) (d : Device) (h : eventKind e < d.events.details.length) :
    isLatched e (raise e d) := by
  refine ⟨raise_pending e d, ?_⟩
  simp [raise, List.getD_eq_getElem?_getD, h]

/-- The model's raising is the one the statements name. -/
theorem raise_eq_withEvent (e : EventDetail) (d : Device) : raise e d = withEvent e d := rfl

/-! ### The fields of the layouts -/

/-- A number's field is the model's octets of it. -/
theorem numberField_eq_octets (k v : Nat) : numberField k v = octets k v := by
  unfold numberField
  induction k with
  | zero => rfl
  | succ k ih =>
    rw [List.range_succ_eq_map, List.map_cons, List.map_map, octets, ← ih]
    congr 1
    refine List.map_congr_left fun i _ => ?_
    simp only [Function.comp, Nat.succ_eq_add_one]
    congr 3
    omega

/-- A signed number's field is the model's octets of it. -/
theorem signedField_eq_octets (k : Nat) (v : Int) : signedField k v = signedOctets k v := numberField_eq_octets _ _

/-- A flag's field is the model's octet of it. -/
theorem flagField_eq_octet (b : Bool) : flagField b = flagOctet b := by cases b <;> rfl

/-- A field that may be absent is the model's option of its octets. -/
theorem presentField_eq_octets {α : Type} (k : Nat) (f : α → List Byte) (x : Option α) :
    presentField k f x = optionOctets k (x.map f) := by
  cases x <;> simp [presentField, optionOctets, List.replicate_succ]

/-! ### Edit posts (R85; 11, Messages) -/

/-- A number in two or three octets. -/
theorem ofOctets_two (a b : Byte) : ofOctets [a, b] = a.toNat * 256 + b.toNat := by simp [ofOctets]
theorem ofOctets_three (a b c : Byte) : ofOctets [a, b, c] = (a.toNat * 256 + b.toNat) * 256 + c.toNat := by
  simp [ofOctets]

/-- A flag bit of an octet, by its number. -/
theorem octetBit (b : Byte) (k : Nat) : b.getLsbD k = decide (b.toNat / 2 ^ k % 2 = 1) := by
  rw [BitVec.getLsbD, Nat.testBit_eq_decide_div_mod_eq]

/-- A post is read exactly where its octets are in range, with the fields the manual lays out. -/
theorem readPost_eq {l : List Byte} (hl : l.length = 9) :
    (postInRange l → readPost l = some (postFields l)) ∧ (¬ postInRange l → readPost l = none) := by
  match l, hl with
  | [a, b, c, d, e, f, g, h, i], _ =>
    have hc : c.toNat < 256 := c.isLt
    have h7 : c.getLsbD 7 = decide (128 ≤ c.toNat) := by
      rw [octetBit]
      simp only [decide_eq_decide]
      omega
    have h6 : c.getLsbD 6 = decide (c.toNat / 64 % 2 = 1) := octetBit c 6
    simp only [readPost, postInRange, postFields, field, octetAt, List.drop, List.take, List.getD_cons_zero,
      List.getD_cons_succ, ofOctets_two, ofOctets_three, h7, h6]
    generalize b.toNat / 16 = x
    generalize b.toNat % 16 = y
    constructor <;> intro hr <;> grind

end Sys2Proof.Machine
end

