-- ==== Sys2Proof/Tests/Slice0.lean ====
section
/-! SUPPORT. The model's own tests: the checks of WellFormed, worked examples of the manual, and for every statement a
state that meets its hypotheses, clause by clause. -/

namespace Sys2Proof.Tests

-- Each test is decided in the kernel, which takes them one after another.
set_option Elab.async false

open Sys2Proof Sys2Proof.Machine

/-! ### Ill-formed commands are refused -/

def octetsOf (n : Nat) : List Byte := List.replicate n 0
def soundBlock : BlockRecord := .present (octetsOf 45) (octetsOf 4) .sound
def message (source : Nat) (body : List Byte) : LinkMessage := { destination := 255, source := source, body := body }

theorem test_ill_args : (Instr.motion (octetsOf 256)).wellFormed = false := by decide +kernel
theorem test_ill_frame : (Instr.wordReferencePeriod
    { frame := { marker := false, message := false, slots := [] }, lineIn := silentPair
      order := { frame := .frameFirst, testFirst := false, expiryFirst := false, endsApart := false } }).wellFormed =
    false := by decide
theorem test_ill_stripe_blocks : (Instr.advanceStripeArrival .a (List.replicate 37 soundBlock)).wellFormed = false := by
  decide
theorem test_ill_stripe_content : (Instr.confidenceStripeArrival .b
    (List.replicate 37 soundBlock ++ [.present (octetsOf 44) (octetsOf 4) .sound])).wellFormed = false := by decide
theorem test_ill_stripe_correction : BlockRecord.wellFormed
    (.present (octetsOf 45) (octetsOf 4) (.oneDamaged (octetsOf 44))) = false := by decide
theorem test_ill_stripe_rebuilt : BlockRecord.wellFormed (.absent (octetsOf 46)) = false := by decide
theorem test_ill_stripe_heavier : BlockRecord.wellFormed
    (.present (octetsOf 45) (octetsOf 3) (.heavier (octetsOf 45))) = false := by decide
theorem test_ill_window : (Instr.writeWindowHeadA 16777216).wellFormed = false := by decide
theorem test_ill_window_b : (Instr.writeWindowHeadB 16777216).wellFormed = false := by decide
theorem test_ill_message_destination : (Instr.editReportMessage
    { destination := 256, source := 0, body := [] }).wellFormed = false := by decide
theorem test_ill_message_source : (Instr.slotClaimMessage (message 8 [0])).wellFormed = false := by decide
theorem test_ill_message_body : (Instr.editPostMessage (message 0 (octetsOf 17))).wellFormed = false := by decide
theorem test_ill_status_slot : (Instr.statusWordCompletion 12 0).wellFormed = false := by decide
theorem test_ill_double_drive : (Instr.doubleDrive 12).wellFormed = false := by decide
theorem test_ill_timeout : (Instr.slotTimeout 12).wellFormed = false := by decide
theorem test_ill_known_code : (Instr.unknownCode 28 []).wellFormed = false := by decide
theorem test_ill_known_kind : (Instr.messageOfUnknownKind 9 (message 0 [])).wellFormed = false := by decide
theorem test_ill_wide_kind : (Instr.messageOfUnknownKind 32 (message 0 [])).wellFormed = false := by decide
theorem test_well_formed : (Instr.confidenceStripeArrival .b (List.replicate 38 soundBlock)).wellFormed = true := by
  decide

/-! ### Small states -/

/-- Station 2 in a link mode. -/
def configFor (mode : LinkMode) : Configuration :=
  { station := 2, groups := 1, authority := 5, linkMode := mode, wordLength := 16, requant := .shaped
    original := .openCopy, advance := 4, confidence := 2, prefill := 1, holdLimit := 32, recoveryCount := 16
    kernel := 0, verifyLimit := 4, label := [74, 72, 52, 50], thresholds := List.replicate 10 0 }

/-- A configured device with a transaction in COMMAND. -/
def unit : Device :=
  { Device.reset with config := some (configFor .off), port := { Port.initial with transaction := .command } }

/-- The same with its motion and mode. -/
def moving (mode : Mode) : Device := { unit with port := { unit.port with motion := .playing, mode := mode } }

/-- A configured device on the link. -/
def linked : Device :=
  { unit with config := some (configFor .normal), link := { Link.initial with attachment := .attached } }

def withSegment (n : Nat) (st : SlotState) (d : Device) : Device := putSegment (freshSegment n st) d
def playAt (st : PlayState) (n o : Nat) (d : Device) : Device :=
  { d with ring := { d.ring with play := { state := st, position := { segment := n, offset := o }, ended := false } } }
def confAt (n o : Nat) (d : Device) : Device :=
  { d with ring := { d.ring with conf := { running := true, position := { segment := n, offset := o } } } }
def aPeriod : Period :=
  { frame := recessiveFrame, lineIn := { left := 5, right := BitVec.ofInt 24 (-7) }
    order := { frame := .deliveryFirst, testFirst := false, expiryFirst := false, endsApart := false } }
/-- An entry of a state, for 100:0. -/
def anEntry (st : EditState) (poster : Poster) : Entry :=
  { state := st, poster := poster, target := some { segment := 100, offset := 0 }, fired := st != .pending
    post := { tag := 7, action := .punchIn, chained := false, trigger := .atPosition 100 0, fadeCode := 1, shape := 0
              requiresLock := false, octets := octetsOf 9 }
    outcome := if st = .pending ∨ st = .retired then none else some .done
    status := if st = .retired then some .done else none
    result := if st = .pending ∨ st = .retired then none else
      some { first := none, last := none, inFlight := 0, tally := 0, weak := false, unverified := false
             edgeConcealed := false, lockLost := false }
    report := .none_ }
def withEntry (p : Nat) (e : Entry) (d : Device) : Device := putEntry p e d
def inserting (phase : Phase) (d : Device) : Device :=
  let d1 := withEntry 5 (anEntry .inserting .localPort) d
  { d1 with edit := { d1.edit with
      state := .inserting, insertion := some 5, phase := some phase, gain := 128,
      fade := if phase = .full then none else some { length := 32, shape := 0, step := 32, start := 128 } } }

/-- A pair of the tape with both samples GOOD, and one with both LOST. -/
def goodOld (x : Sample) : OldPair :=
  { left := { value := x, good := true, mark := none }, right := { value := x, good := true, mark := none } }
/-- A segment whose every sample reads 1000. -/
def sounding (n : Nat) (st : SlotState) : Segment :=
  { freshSegment n st with old := some (List.replicate 480 (goodOld 1000)) }
/-- The play playout RUNNING at 100:o in its slot. -/
def running (o : Nat) (d : Device) : Device := playAt .running 100 o (putSegment (sounding 100 .playout) d)
/-- An insertion with a fade at a step. -/
def fading (phase : Phase) (step : Nat) (d : Device) : Device :=
  let e := inserting phase d
  { e with edit := { e.edit with
      fade := if phase = .full then none else some { length := 32, shape := 0, step := step, start := 256 } } }
/-- The period of a given order of its segment ends. -/
def periodOf (apart : Bool) : Period := { aPeriod with order := { aPeriod.order with endsApart := apart } }
/-- The left and right play and confidence contexts CLEAN. -/
def clean (d : Device) : Device :=
  let x : Context := { Context.start with state := .clean, gain := 256 }
  { d with conceal := { d.conceal with playLeft := x, playRight := x, confLeft := x, confRight := x } }
def lineTo (y : Destination) (d : Device) : Device :=
  { d with router := { d.router with
      routes := d.router.routes.set 7 { source := .lineIn, destination := y, enabled := true } } }

def at_ (d : Device) : State := { dev := d, pending := [] }

/-- The response a command leaves. -/
def responseOf (c : Instr) (d : Device) : Option Response :=
  match exec c (at_ d) with
  | .next t => t.dev.port.response
  | _ => none

/-- What a command leaves of the device. -/
def after {α : Type} (f : Device → α) (c : Instr) (d : Device) : Option α :=
  match exec c (at_ d) with
  | .next t => some (f t.dev)
  | _ => none

/-! ### Checks behind the hypotheses -/

/-- R1 on the slots from a place on. -/
def placedFrom : Nat → List (Option Segment) → Bool
  | _, [] => true
  | i, none :: rest => placedFrom (i + 1) rest
  | i, some r :: rest => r.number % 16 == i && placedFrom (i + 1) rest

theorem placedFrom_sound : ∀ (l : List (Option Segment)) (i : Nat), placedFrom i l = true →
    ∀ (j : Nat) (r : Segment), l[j]? = some (some r) → r.number % 16 = i + j
  | [], _, _, j, r, h => by simp at h
  | none :: rest, i, hp, 0, r, h => by simp at h
  | none :: rest, i, hp, j + 1, r, h => by
    have := placedFrom_sound rest (i + 1) hp j r (by simpa using h)
    omega
  | some x :: rest, i, hp, 0, r, h => by
    simp only [placedFrom, Bool.and_eq_true, beq_iff_eq] at hp
    simp only [List.getElem?_cons_zero, Option.some.injEq] at h
    subst h
    simpa using hp.1
  | some x :: rest, i, hp, j + 1, r, h => by
    simp only [placedFrom, Bool.and_eq_true] at hp
    have := placedFrom_sound rest (i + 1) hp.2 j r (by simpa using h)
    omega

theorem ringPlaced_check {d : Device} (h : (d.ring.slots.length == 16 && placedFrom 0 d.ring.slots) = true) :
    ringPlaced d := by
  simp only [Bool.and_eq_true, beq_iff_eq] at h
  refine ⟨h.1, fun i r hr => ?_⟩
  have := placedFrom_sound _ 0 h.2 i r hr
  omega

theorem noneIn_check {l : List SlotState} {d : Device}
    (h : d.ring.slots.all (fun o => (o.map (fun r => !l.contains r.state)).getD true) = true) : noneIn l d := by
  intro i r hr
  have := List.all_eq_true.mp h _ (List.mem_of_getElem? hr)
  simpa using this

theorem lowest_check {st : SlotState} {n : Nat} {d : Device}
    (h : d.ring.slots.all (fun o => (o.map (fun r => r.state != st || decide (n ≤ r.number))).getD true) = true) :
    ∀ m, (heldIn st m d).isSome = true → n ≤ m := by
  intro m hm
  unfold heldIn held slotOf at hm
  rw [List.getD_eq_getElem?_getD] at hm
  cases hs : d.ring.slots[m % 16]? with
  | none => simp [hs] at hm
  | some o =>
    have hall := List.all_eq_true.mp h _ (List.mem_of_getElem? hs)
    cases o with
    | none => simp [hs] at hm
    | some r =>
      simp only [hs, Option.getD_some] at hm
      by_cases hn : r.number = m
      · by_cases hst : r.state = st
        · simp [hst] at hall
          omega
        · simp [hn, hst] at hm
      · simp [hn] at hm

theorem nothingWaits_check {d : Device}
    (h : (d.table.all (fun e => e.ownRelease != .owed) &&
      d.edit.places.all (fun o => (o.map (fun e => e.report != .waiting)).getD true)) = true) : nothingWaits d := by
  simp only [Bool.and_eq_true, List.all_eq_true] at h
  refine ⟨fun k => ?_, fun p e he => ?_⟩
  · unfold slotEntry
    rw [List.getD_eq_getElem?_getD]
    cases hk : d.table[k]? with
    | none => decide
    | some e =>
      have := h.1 e (List.mem_of_getElem? hk)
      simpa using this
  · unfold entryAt at he
    rw [List.getD_eq_getElem?_getD] at he
    cases hk : d.edit.places[p]? with
    | none => simp [hk] at he
    | some o =>
      have := h.2 o (List.mem_of_getElem? hk)
      simp only [hk, Option.getD_some] at he
      subst he
      simpa using this

theorem headStands_check {pos : Position} {d : Device}
    (h : (match (headOfWork d).bind (fun p => entryAt p d) with
      | none => true
      | some e => match e.target, e.post.trigger with
        | some t, _ => decide (sampleCount pos ≤ sampleCount t)
        | none, .search _ _ => true
        | none, _ => false) = true) : headStands pos d := by
  intro p e hp he
  rw [hp, Option.bind_some, he] at h
  cases ht : e.target with
  | some t => exact Or.inl ⟨t, rfl, by simpa [ht] using h⟩
  | none =>
    cases htr : e.post.trigger with
    | search p' o => exact Or.inr ⟨rfl, p', o, rfl⟩
    | atPosition n o => simp [ht, htr] at h
    | nextSegment o => simp [ht, htr] at h

theorem headWaits_check {pos : Position} {d : Device} (hs : d.edit.state = derivedState d)
    (hn : headOfWork d = none) : headWaits pos d := by
  refine ⟨hs, fun h e hh => ?_, fun h hh => ?_⟩ <;> rw [hn] at hh <;> cases hh

/-- A check of every entry with its place. -/
theorem entriesAll_check {f : Entry → Nat → Bool} {d : Device}
    (hc : (d.edit.places.zipIdx.all (fun x => (x.1.map (fun e => f e x.2)).getD true)) = true) :
    ∀ p x, entryAt p d = some x → f x p = true := by
  intro p x hx
  unfold entryAt at hx
  rw [List.getD_eq_getElem?_getD] at hx
  cases hp : d.edit.places[p]? with
  | none => simp [hp] at hx
  | some o =>
    have hm : (o, p) ∈ d.edit.places.zipIdx := List.mk_mem_zipIdx_iff_getElem?.mpr hp
    have := List.all_eq_true.mp hc _ hm
    simp only [hp, Option.getD_some] at hx
    subst hx
    simpa using this

/-- Only the entry of one place waits. -/
theorem onlyWaiting_check {h : Nat} {d : Device}
    (hc : (d.edit.places.zipIdx.all (fun x => (x.1.map (fun e =>
      e.state != .pending || e.fired || x.2 == h)).getD true)) = true) :
    ∀ p x, entryAt p d = some x → x.state = .pending → x.fired = false → p = h := by
  intro p x hx hs hf
  have := entriesAll_check (f := fun e q => e.state != .pending || e.fired || q == h) hc p x hx
  simpa [hs, hf] using this

/-- Only the entry of one place is PENDING and has fired. -/
theorem onlyFired_check {h : Nat} {d : Device}
    (hc : (d.edit.places.zipIdx.all (fun x => (x.1.map (fun e =>
      e.state != .pending || !e.fired || x.2 == h)).getD true)) = true) :
    ∀ p x, entryAt p d = some x → x.state = .pending → x.fired = true → p = h := by
  intro p x hx hs hf
  have := entriesAll_check (f := fun e q => e.state != .pending || !e.fired || q == h) hc p x hx
  simpa [hs, hf] using this

/-- A chained PUNCH_IN and the PUNCH_OUT of its poster in the next place, with the tail at 0. -/
theorem isChain_next {p : Nat} {d : Device} {e x : Entry} (ht : d.edit.tail = 0) (hp : p + 1 < 32)
    (he : entryAt p d = some e) (hx : entryAt (p + 1) d = some x)
    (h : (e.post.action == .punchIn && e.post.chained && x.post.action == .punchOut && x.state == .pending && !x.fired &&
      x.poster == e.poster) = true) : isChain p (p + 1) d := by
  simp only [Bool.and_eq_true, beq_iff_eq, Bool.not_eq_true'] at h
  obtain ⟨⟨⟨⟨⟨h1, h2⟩, h3⟩, h4⟩, h5⟩, h6⟩ := h
  refine ⟨by omega, hp, ?_, e, x, he, hx, ⟨h1, h2⟩, ⟨h3, h4, h5⟩, h6, fun q y hq ha hb _ _ => ?_⟩ <;>
    simp only [ringRank, ht] at * <;> omega

theorem unit_shaped : shaped unit :=
  ⟨ringPlaced_check (by decide), by unfold tablesShaped; decide⟩

theorem unit_ready : commandReady unit := ⟨⟨rfl, rfl⟩, rfl⟩
theorem moving_ready (m : Mode) : commandReady (moving m) := ⟨⟨rfl, rfl⟩, rfl⟩
theorem moving_shaped (m : Mode) : shaped (moving m) :=
  ⟨ringPlaced_check (by rfl), by unfold tablesShaped; cases m <;> decide⟩
theorem linked_ready : commandReady linked := ⟨⟨rfl, rfl⟩, rfl⟩
theorem linked_shaped : shaped linked := ⟨ringPlaced_check (by decide), by unfold tablesShaped; decide⟩

/-! ### The queue, the resets and the exchange -/

def held_ : Device := { Device.reset with resetHeld := true }
def open_ : Device := { Device.reset with port := { Port.initial with transaction := .command } }

theorem test_step_front : step { dev := unit, pending := [.motion [1], .skipEnd] } =
    exec (.motion [1]) { dev := unit, pending := [.skipEnd] } := rfl
theorem test_step_idle : step State.reset = .next State.reset := rfl
theorem test_witness_ExchangeFramesAndJudges : (Device.reset.resetHeld = false ∧ held_.resetHeld = true) ∧
    (commandFrame (.motion [1]) ≠ none ∧ Device.reset.port.transaction ≠ .command) ∧
    frameOpen open_ ∧ configured open_ = false ∧ commandFrame (.motion [1]) = some (2, 1, [1]) ∧ frameOpen unit ∧
    configured unit = true ∧ commandFrame (.motion [1, 1]) = some (2, 1, [1, 1]) ∧
    commandFrame (.configure []) = some (1, 38, []) :=
  ⟨by decide, by decide, ⟨rfl, rfl⟩, rfl, rfl, ⟨rfl, rfl⟩, rfl, rfl, rfl⟩
theorem test_frames_answered : responseOf (.unknownCode 0 []) unit = some (answer .badArg) ∧
    responseOf (.motion [1, 1]) open_ = some (answer .notConfigured) ∧
    responseOf (.motion [1, 1]) unit = some (answer .badArg) ∧
    responseOf (.configure []) open_ = some (answer .badArg) := by decide

/-- A configuration block at the lowest or the highest values of its ranges. -/
def blockOf (station mode length status requant d c p hold run kernel : Byte) : List Byte :=
  [station, 1, 255, mode, length, requant, status, d, c, p, hold, run, kernel, 4, 74, 72, 52, 50] ++ octetsOf 20
def lowBlock : List Byte := blockOf 0 0 16 0 0 3 1 1 8 4 0
def highBlock : List Byte := blockOf 7 2 20 3 3 6 4 4 64 64 3

theorem test_witness_ConfigureTakesBlockOnce : frameOpen open_ ∧ frameOpen unit ∧ configured open_ = false ∧
    configured unit = true ∧ lowBlock.length = 38 ∧ blockInRange lowBlock ∧ blockInRange highBlock ∧
    octetAt 3 lowBlock = 0 ∧ octetAt 3 (blockOf 3 1 16 0 0 3 1 1 8 4 0) = 1 ∧ octetAt 3 highBlock = 2 ∧
    ¬ blockInRange (octetsOf 38) := by
  unfold frameOpen blockInRange
  decide
theorem test_configure : after (fun d => (d.config.map Configuration.station, d.encoder.generator, d.link.attachment))
    (.configure highBlock) open_ = some (some 7, 8, .attached) := by decide

/-! ### Motion, mode, program, routes -/

theorem test_witness_MotionAndProgramAreSet : commandReady unit ∧ octetAt 0 [3] = motionCode .windRev ∧
    unit.port.motion ≠ .playing ∧ octetAt 0 [1] = motionCode .playing ∧ (moving .play).port.motion = .playing ∧
    3 < octetAt 0 [4] ∧ octetAt 0 [99] ≤ 99 ∧ octetAt 0 [255] = 255 ∧ 99 < octetAt 0 [100] ∧ octetAt 0 [254] < 255 := by
  unfold commandReady frameOpen
  decide
theorem test_motion : after (fun d => d.port.motion) (.motion [3]) unit = some .windRev ∧
    responseOf (.motion [4]) unit = some (answer .badArg) := by decide


theorem test_witness_LeavingPlayingFlushes : commandReady (moving .record) ∧ commandReady (moving .play) ∧
    (moving .record).port.motion = .playing ∧ (moving .record).port.mode = .record ∧
    octetAt 0 [0] = motionCode .stopped ∧ shaped (inserting .full (moving .insert)) ∧
    (inserting .full (moving .insert)).edit.insertion = some 5 ∧
    (entryAt 5 (inserting .full (moving .insert))).isSome = true :=
  ⟨moving_ready _, moving_ready _, rfl, rfl, rfl, ⟨ringPlaced_check (by decide), by unfold tablesShaped; decide⟩, rfl,
    rfl⟩
/-- An insertion of place 5 with its chained or fired PUNCH_OUT in place 6, and more entries behind. -/
def chainedTo (fired : Bool) (d : Device) : Device :=
  let e := anEntry .inserting .localPort
  let o := anEntry .pending .localPort
  withEntry 8 (anEntry .pending (.station 1)) (withEntry 7 (anEntry .verifying (.station 1))
    (withEntry 6 { o with fired := fired, outcome := if fired then some .done else none
                          post := { o.post with tag := 8, action := .punchOut } }
      (withEntry 5 { e with post := { e.post with chained := true } } d)))
theorem test_witness_LeavingPlayingFlushes_entries :
    let d := chainedTo true (inserting .fadeOut (moving .insert))
    commandReady d ∧ shaped d ∧ d.port.motion = .playing ∧ d.edit.insertion = some 5 ∧
    ((entryAt 6 d).map (fun x => (x.state, x.fired)) = some (.pending, true) ∧
      ∀ q y, entryAt q d = some y → y.state = .pending → y.fired = true → q = 6) ∧
    (entryAt 7 d).map Entry.state = some .verifying ∧ (∀ r ∈ records d, r.state = .fill → r.editLink ≠ some 7) ∧
    (entryAt 8 d).map (fun x => (x.state, x.fired)) = some (.pending, false) := by
  refine ⟨⟨⟨rfl, rfl⟩, rfl⟩, ⟨ringPlaced_check (by decide), by unfold tablesShaped; decide +kernel⟩, rfl, rfl,
    ⟨by decide +kernel, fun q y hy hs hf => ?_⟩, by decide +kernel, by decide +kernel, by decide +kernel⟩
  have := onlyFired_check (d := chainedTo true (inserting .fadeOut (moving .insert))) (h := 6) (by decide +kernel)
  exact this q y hy hs hf
theorem test_motion_flush_entries : after (fun d => [5, 6, 7, 8].map (fun p =>
      (entryAt p d).map (fun e => (e.state, e.status, e.result.map EditResult.unverified))))
    (.motion [0]) (chainedTo true (inserting .fadeOut (moving .insert))) =
    some [some (.retired, some .abandoned, some false), some (.retired, some .abandoned, none),
      some (.retired, some .done, some true), some (.pending, none, none)] := by decide +kernel
theorem test_motion_flush : after (fun d => (d.port.mode, d.edit.insertion, (entryAt 5 d).map Entry.state)) (.motion [0])
    (inserting .full (moving .insert)) = some (.play, none, some .retired) := by decide +kernel
theorem test_witness_ModeSetFollowsTables : ringPlaced (moving .play) ∧ (moving .insert).port.mode = .insert ∧
    (moving .insert).edit.state ≠ .inserting ∧ (inserting .full (moving .insert)).edit.state = .inserting ∧
    (inserting .full (moving .insert)).port.mode = .insert ∧ ringPlaced (inserting .full (moving .insert)) ∧
    commandReady (inserting .full (moving .insert)) :=
  ⟨(moving_shaped _).1, rfl, by decide, rfl, rfl, ringPlaced_check (by decide), ⟨⟨rfl, rfl⟩, rfl⟩⟩
theorem test_mode_set : responseOf (.modeSet [3]) unit = some (answer .badArg) ∧
    responseOf (.modeSet [1]) unit = some { code := .refused, data := [2] } ∧
    responseOf (.modeSet [2]) (moving .record) = some { code := .refused, data := [3] } ∧
    after (fun d => (d.port.mode, d.recorder.state)) (.modeSet [1]) (moving .play) = some (.record, .awaitOrigin) := by
  decide
theorem test_program_set : after (fun d => d.recorder.program) (.programSet [99]) unit = some (some 99) ∧
    after (fun d => d.recorder.program) (.programSet [255]) unit = some none ∧
    responseOf (.programSet [100]) unit = some (answer .badArg) ∧
    responseOf (.programSet [254]) unit = some (answer .badArg) := by decide
theorem test_witness_RouteCommandsSetAndRead : commandReady unit ∧ unit.router.routes.length = 8 ∧
    sourceCode .tape = octetAt 1 [0, 1, 2, 0] ∧ destinationCode .recordFeed = octetAt 2 [0, 1, 2, 0] ∧
    sourceCode (.linkRx 11) = octetAt 1 [7, 14, 14, 1] ∧ destinationCode (.linkTx 11) = octetAt 2 [7, 14, 14, 1] ∧
    unit.router.routes[octetAt 0 [7]]? = some { source := .silence, destination := .mainOut, enabled := false } := by
  unfold commandReady frameOpen
  decide
theorem test_routes : responseOf (.routeSet [0, 1, 2, 0]) unit = some (answer .badArg) ∧
    responseOf (.routeSet [7, 14, 14, 1]) unit = some (done []) ∧
    responseOf (.routeSet [8, 0, 0, 0]) unit = some (answer .badArg) ∧
    responseOf (.routeRead [0]) unit = some (done [1, 0, 1, 0, 1]) ∧
    responseOf (.routeRead [8]) unit = some (answer .badArg) := by decide

/-! ### Link slots, reads, edit commands -/

def withSlot (k : Nat) (e : SlotEntry) (d : Device) : Device := putSlotEntry k e d
def ownedBy (p : Nat) : SlotEntry := { SlotEntry.free with owner := some p, copy := some .openCopy }
def aMessage (origin : MessageOrigin) : Queued :=
  { kind := 2, destination := 255, body := [0], losses := 0, origin := origin, sent := none }
def fullQueue (d : Device) : Device := setQueue (List.replicate 8 (aMessage .localClaim)) d

theorem test_witness_SlotCommandsQueueMessages : commandReady linked ∧ unit.link.attachment ≠ .attached ∧
    linked.link.attachment = .attached ∧ (slotEntry 11 linked).owner = none ∧ (slotEntry 11 linked).ownClaim = false ∧
    linked.link.queue.length < 8 ∧ 8 ≤ (fullQueue linked).link.queue.length ∧
    (slotEntry 0 (withSlot 0 (ownedBy 2) linked)).owner = some (cfg linked).station ∧
    (slotEntry 0 (withSlot 0 (ownedBy 2) linked)).ownRelease = .none_ := by
  unfold commandReady frameOpen
  decide
theorem test_slot_claim : responseOf (.slotClaim [12]) linked = some (answer .badArg) ∧
    responseOf (.slotClaim [11]) linked = some (done []) ∧
    responseOf (.slotClaim [11]) (fullQueue linked) = some (answer .queueFull) ∧
    responseOf (.slotClaim [0]) (withSlot 0 (ownedBy 3) linked) = some (answer .busy) := by decide +kernel
theorem test_slot_release : responseOf (.slotRelease [0]) unit = some { code := .refused, data := [4] } ∧
    responseOf (.slotRelease [0]) linked = some { code := .refused, data := [5] } ∧
    responseOf (.slotRelease [0]) (withSlot 0 (ownedBy 2) linked) = some (done []) ∧
    responseOf (.slotRelease [0]) (withSlot 0 { ownedBy 2 with ownRelease := .owed } linked) = some (answer .busy) := by
  decide +kernel
theorem test_witness_ReadsReturnAndClear : commandReady unit ∧ octetAt 0 [1] = 1 ∧ 1 < octetAt 0 [2] :=
  ⟨unit_ready, by decide⟩
theorem test_read_layouts : (statusLayout linked).length = 466 ∧ (slotsLayout linked).length = 12 * 18 := by decide +kernel
theorem test_reads : responseOf (.peaksRead []) unit = some (done (octetsOf 12)) ∧
    responseOf (.countersRead [1]) unit = some (done (octetsOf 10)) ∧
    responseOf (.countersRead [2]) unit = some (answer .badArg) := by decide +kernel

def aPost : List Byte := [7, 0, 1, 0, 0, 0, 100, 1, 223]
/-- An entry that waits for 200:0 at the head of work, and the head behind it. -/
def posted (d : Device) : Device :=
  let e := withEntry 0 { anEntry .pending (.station 1) with target := some { segment := 200, offset := 0 } } d
  { e with edit := { e.edit with head := 1, state := .waiting } }
theorem test_witness_EditPostTakesHeadPlace : commandReady unit ∧ shaped unit ∧ (postFields aPost).tag = 7 ∧
    placeOf .localPort 7 unit = none ∧ entryAt unit.edit.head unit = none ∧ unit.ring.play.state ≠ .running ∧
    placeOf .localPort 7 (withEntry 0 (anEntry .pending .localPort) unit) ≠ none ∧
    placeOf .localPort 7 (withEntry 0 (anEntry .pending (.station 1)) unit) = none ∧
    entryAt 0 (withEntry 0 (anEntry .pending (.station 1)) unit) ≠ none ∧
    shaped (running 479 (moving .insert)) ∧ (running 479 (moving .insert)).ring.play.state = .running ∧
    headOfWork (running 479 (moving .insert)) = none ∧ entryAt 0 (running 479 (moving .insert)) = none ∧
    (let d := posted (running 479 (moving .insert))
     headOfWork d = some 0 ∧ headStands { segment := 100, offset := 479 } d ∧ entryAt 1 d = none ∧
      (0 + 32 - d.edit.tail) % 32 < (1 + 32 - d.edit.tail) % 32 ∧ d.edit.head = 1 ∧ shaped d) :=
  ⟨unit_ready, unit_shaped, by decide +kernel, by decide +kernel, by decide +kernel,
    by decide +kernel, by decide +kernel, by decide +kernel, by decide +kernel,
    ⟨ringPlaced_check (by decide +kernel), by unfold tablesShaped; decide +kernel⟩, by decide +kernel, by decide +kernel,
    by decide +kernel, by decide +kernel, headStands_check (by decide +kernel), by decide +kernel, by decide +kernel,
    by decide +kernel, ⟨ringPlaced_check (by decide +kernel), by unfold tablesShaped; decide +kernel⟩⟩
/-- Each range of a post at its ends (R85): action, trigger kind, chained flag, pattern, fade length code, offset. -/
theorem test_witness_EditPost_ranges :
    (∀ l ∈ ([[7, 0x22, 0x75, 0, 0, 0, 0, 1, 223], [7, 0x11, 0x40, 3, 255, 255, 255, 0, 0], [7, 0, 0x85, 4, 0, 0, 0, 0, 0]] :
      List (List Byte)), l.length = 9 ∧ postInRange l) ∧
    ∀ l ∈ ([[7, 0x30, 0, 0, 0, 0, 0, 0, 0], [7, 0x03, 0, 0, 0, 0, 0, 0, 0], [7, 0x10, 0x80, 0, 0, 0, 0, 0, 0],
      [7, 0x01, 0, 4, 0, 0, 0, 0, 0], [7, 0, 6, 0, 0, 0, 0, 0, 0], [7, 0, 0, 0, 0, 0, 0, 1, 224]] : List (List Byte)),
      l.length = 9 ∧ ¬ postInRange l ∧ responseOf (.editPost l) unit = some (answer .badArg) := by
  unfold postInRange
  decide +kernel
/-- A MARK that requires lock, in shape 3 with code 5, at offset 479 of the next segment. -/
theorem test_post_fields : postFields [7, 0x22, 0x75, 0, 0, 0, 0, 1, 223] =
    { tag := 7, action := .mark, chained := false, trigger := .nextSegment 479, fadeCode := 5, shape := 3
      requiresLock := true, octets := [7, 0x22, 0x75, 0, 0, 0, 0, 1, 223] } := by decide +kernel
theorem test_edit_post : responseOf (.editPost aPost) unit = some (done [0]) ∧
    responseOf (.editPost aPost) (withEntry 0 (anEntry .pending .localPort) unit) = some (answer .duplicate) ∧
    responseOf (.editPost aPost) (withEntry 0 (anEntry .pending (.station 1)) unit) = some (answer .full) := by
  decide +kernel
theorem test_edit_post_running : after (fun d => (entryAt 0 d).bind Entry.target) (.editPost [7, 2, 1, 0, 0, 0, 0, 0, 9])
      (running 479 (moving .insert)) = some (some { segment := 101, offset := 9 }) ∧
    after (fun d => ((entryAt 0 d).bind Entry.status, d.edit.state)) (.editPost [7, 0, 1, 0, 0, 0, 100, 1, 222])
      (running 479 (moving .insert)) = some (some .late, .idle) := by decide +kernel
theorem test_witness_EditCancelEndsEntry : commandReady (inserting .full (moving .insert)) ∧ 8 < octetAt 0 [9, 7] ∧
    posterCode .localPort = octetAt 0 [8, 7] ∧ posterCode (.station 7) = octetAt 0 [7, 7] ∧
    placeOf .localPort 7 (inserting .full (moving .insert)) = some 5 ∧
    (entryAt 5 (inserting .full (moving .insert))).map Entry.state = some .inserting ∧
    (inserting .full (moving .insert)).edit.phase ≠ some .fadeOut ∧
    (inserting .fadeOut (moving .insert)).edit.phase = some .fadeOut ∧
    placeOf .localPort 7 (withEntry 3 (anEntry .pending .localPort) unit) = some 3 ∧
    placeOf .localPort 8 (withEntry 3 (anEntry .pending .localPort) unit) = none :=
  ⟨⟨⟨rfl, rfl⟩, rfl⟩, by decide +kernel⟩
/-- A PENDING chained PUNCH_IN in place 5 with its PUNCH_OUT in place 6, the head of work. -/
def chainWaiting (d : Device) : Device :=
  let e := anEntry .pending .localPort
  let x := withEntry 5 { e with post := { e.post with chained := true } }
    (withEntry 6 { e with post := { e.post with tag := 8, action := .punchOut } } d)
  { x with edit := { x.edit with state := .waiting } }
theorem test_witness_EditCancelEndsEntry_chain :
    let d := chainWaiting unit
    let x := chainedTo false (inserting .full (moving .insert))
    commandReady d ∧ shaped d ∧ placeOf .localPort 7 d = some 5 ∧ isChain 5 6 d ∧
    commandReady x ∧ shaped x ∧ placeOf .localPort 7 x = some 5 ∧ isChain 5 6 x ∧ x.edit.phase = some .full :=
  ⟨⟨⟨rfl, rfl⟩, rfl⟩, ⟨ringPlaced_check (by decide), by unfold tablesShaped; decide +kernel⟩, by decide +kernel,
    isChain_next rfl (by decide) rfl rfl (by decide), ⟨⟨rfl, rfl⟩, rfl⟩,
    ⟨ringPlaced_check (by decide), by unfold tablesShaped; decide +kernel⟩, by decide +kernel,
    isChain_next rfl (by decide) rfl rfl (by decide), rfl⟩
theorem test_edit_cancel_chain :
    let st := fun (d : Device) => after (fun d => ((entryAt 6 d).bind Entry.status, d.edit.state)) (.editCancel [8, 7]) d
    st (chainWaiting unit) = some (some .skipped, .idle) ∧
    st (chainedTo false (inserting .full (moving .insert))) = some (some .skipped, .inserting) := by decide +kernel
theorem test_edit_cancel : after (fun d => (entryAt 3 d).map Entry.status) (.editCancel [8, 7])
      (withEntry 3 (anEntry .pending .localPort) unit) = some (some (some .cancelled)) ∧
    after (fun d => d.edit.fade) (.editCancel [8, 7]) (inserting .full (moving .insert)) =
      some (some { length := 32, shape := 0, step := 0, start := 128 }) ∧
    responseOf (.editCancel [8, 7]) (inserting .fadeOut (moving .insert)) = some (answer .notCancellable) ∧
    responseOf (.editCancel [8, 7]) unit = some (answer .notFound) := by decide +kernel
theorem test_witness_EditReapEmptiesTail : commandReady unit ∧ entryAt unit.edit.tail unit = none ∧
    (entryAt 0 (withEntry 0 (anEntry .retired .localPort) unit)).map Entry.state = some .retired :=
  ⟨unit_ready, by decide +kernel⟩
/-- A retired entry at the tail, a retired one behind it whose report is SENT and a third whose report is not due, with
the report of the first second in the queue, its message begun or not. -/
def reaping (sent : Option Nat) : Device :=
  let e := anEntry .retired (.station 0)
  let d := withEntry 0 { e with report := .queued } (withEntry 1 { e with report := .sent }
    (withEntry 2 { e with report := .notDue } linked))
  { d with link := { d.link with queue := [aMessage .localClaim, { aMessage (.report 0) with sent := sent },
      aMessage .refusalReport] } }
theorem test_witness_EditReapEmptiesTail_queued :
    let d := reaping none
    commandReady d ∧ shaped d ∧ nothingWaits d ∧ (entryAt 0 d).map Entry.state = some .retired ∧
    (entryAt 1 d).map (fun e => (e.state, e.report)) = some (.retired, .sent) ∧
    (entryAt 2 d).map Entry.report = some .notDue ∧
    (∀ x ∈ [aMessage .localClaim] ++ [aMessage .refusalReport], x.origin ≠ .report 0) ∧
    (∀ m ∈ unit.link.queue, m.origin ≠ .report 0) :=
  ⟨⟨⟨rfl, rfl⟩, rfl⟩, ⟨ringPlaced_check (by decide), by unfold tablesShaped; decide +kernel⟩,
    nothingWaits_check (by decide), by decide +kernel⟩
theorem test_edit_reap_queued :
    let run := fun (d : Device) => after (fun d => (d.edit.tail, d.link.queue.map Queued.origin)) (.editReap []) d
    run (reaping none) = some (2, [.localClaim, .refusalReport]) ∧
    run (reaping (some 4)) = some (2, [.localClaim, .detachedReport, .refusalReport]) := by decide +kernel
theorem test_edit_reap : responseOf (.editReap []) unit = some (answer .noneReady) ∧
    after (fun d => (entryAt 0 d, d.edit.tail)) (.editReap []) (withEntry 0 (anEntry .retired .localPort) unit) =
      some (none, 1) := by decide +kernel

/-! ### Tables, search, chase, events -/

def kernelSelected (a : Nat) (e : Bool) : Device :=
  { unit with port := { unit.port with table := .kernel, address := a, endWritten := e } }
theorem test_witness_TablePortFollowsItsRule : commandReady (kernelSelected 15 false) ∧
    (kernelSelected 15 true).port.endWritten = true ∧ (kernelSelected 15 false).port.endWritten = false ∧
    unit.port.endWritten = false ∧ (kernelSelected 15 false).conceal.kernel[15]? = some 8 ∧
    (unit.edit.fadeTable[0]?).map (fun x : Nat => (x : Int)) = some 0 ∧ unit.ring.play.state ≠ .running ∧
    (inserting .full (moving .insert)).edit.state = .inserting ∧ ofSignedOctets [255, 128] = -128 ∧
    ofSignedOctets [1, 0] = 256 := by
  unfold commandReady frameOpen
  decide +kernel
theorem test_table_write : responseOf (.tableWrite [0, 1]) (kernelSelected 15 true) =
      some { code := .refused, data := [7] } ∧
    responseOf (.tableWrite [0, 128]) (kernelSelected 15 false) = some (answer .badArg) ∧
    after (fun d => (d.conceal.kernel[15]?, d.port.address, d.port.endWritten)) (.tableWrite [255, 128])
      (kernelSelected 15 false) = some (some (-128), 15, true) ∧
    responseOf (.tableWrite [1, 0]) (inserting .full (moving .insert)) = some (answer .busy) := by decide +kernel
theorem test_table_read : responseOf (.tableRead []) (kernelSelected 15 false) = some (done [0, 8]) ∧
    after (fun d => (d.port.table, d.port.address)) (.tableSelect [1]) unit = some (.kernel, 0) := by decide +kernel

def aSearch (slot count : Byte) : List Byte := [slot, 1, 42, 255, 0, 0, 0, 0] ++ octetsOf 8 ++ [1, 0, 1, 0, count]
theorem test_witness_SearchSetReplacesPattern : commandReady unit ∧ unit.search.patterns.length = 4 ∧
    (aSearch 3 8).length = 21 ∧ unit.search.patterns[3]? = some Pattern.initial := ⟨unit_ready, by decide⟩
theorem test_search_set : after (fun d => (d.search.patterns[3]?).map (fun p => (p.segmentValue, p.count)))
      (.searchSet (aSearch 3 8)) unit = some (some (256, 8)) ∧
    responseOf (.searchSet (aSearch 4 8)) unit = some (answer .badArg) ∧
    responseOf (.searchSet (aSearch 3 9)) unit = some (answer .badArg) ∧
    responseOf (.searchSet (aSearch 0 0)) unit = some (answer .badArg) := by decide +kernel

def aSubcode (n : Nat) : Subcode :=
  { segment := n, program := some 42, indexMark := false, editOffset := none, copy := .openCopy, refused := false
    origin := .line, wordLength := 16, station := 2, label := [74, 72, 52, 50] }
theorem test_pattern : patternMatches { Pattern.initial with programValue := 42, programMask := 255 } (aSubcode 9) = true ∧
    patternMatches { Pattern.initial with segmentEnabled := true, segmentValue := 10 } (aSubcode 9) = false ∧
    patternMatches Pattern.initial (aSubcode 9) = true := by decide
theorem test_witness_PatternMatchesByCriteria : Pattern.initial.programMask = 0 ∧ Pattern.initial.stationMask = 0 ∧
    (∀ i, i < 4 → Pattern.initial.labelMasks.getD i 0 = 0) ∧ Pattern.initial.indexCompared = false ∧
    Pattern.initial.segmentEnabled = false := by decide

def chasing (st : ChaseState) (d : Device) : Device :=
  { d with chase := { Chase.initial with state := st, leadSlot := some 3, offset := some 0, trim := 32767 } }
theorem test_witness_ChaseCommandsSetTheRecord : commandReady (chasing .locked unit) ∧ 11 < octetAt 0 [12, 0, 0, 0, 0, 0] ∧
    (slotEntry 11 unit).owner ≠ some (cfg unit).station ∧
    (slotEntry 0 (withSlot 0 (ownedBy 2) linked)).owner = some (cfg linked).station ∧ unit.chase.state = .off ∧
    (chasing .locked unit).chase.state ≠ .off ∧ 32767 < (chasing .locked unit).chase.trim + ofSignedOctets [0, 1] ∧
    (chasing .locked unit).chase.trim + ofSignedOctets [128, 0] = -1 :=
  ⟨⟨⟨rfl, rfl⟩, rfl⟩, by decide +kernel⟩
theorem test_chase_commands : after (fun d => (d.chase.state, d.chase.offset)) (.chaseSet [11, 255, 255, 255, 0, 1])
      unit = some (.waiting, some (-479)) ∧
    responseOf (.chaseTrim [0, 1]) (chasing .locked unit) = some (answer .badArg) ∧
    after (fun d => d.chase.trim) (.chaseTrim [128, 0]) (chasing .locked unit) = some (-1) ∧
    responseOf (.chaseTrim [0, 0]) unit = some { code := .refused, data := [6] } := by decide +kernel
theorem test_chase_off : after (fun d => d.chase) (.chaseOff []) (chasing .locked unit) = some Chase.initial := by
  decide +kernel

def eventful : Device := { unit with events := { Events.initial with pending := 131073, enabled := 131072 } }
theorem test_witness_EventCommandsExchangeSets : commandReady eventful ∧ octetAt 0 [17] ≤ 17 ∧ 17 < octetAt 0 [18] ∧
    hasKind 17 eventful.events.pending ∧ hasKind 17 (BitVec.ofNat 18 (ofOctets [2, 0, 0])) :=
  ⟨⟨⟨rfl, rfl⟩, rfl⟩, by unfold hasKind; decide⟩
theorem test_events : responseOf (.eventExchange [2, 0, 0]) eventful = some (done [2, 0, 1]) ∧
    after (fun d => d.events.pending) (.eventExchange [2, 0, 0]) eventful = some 1 ∧
    after (fun d => d.events.enabled) (.eventEnable [2, 0, 1]) eventful = some 131073 ∧
    responseOf (.eventDetail [18]) eventful = some (answer .badArg) := by decide +kernel
theorem test_witness_AttnFollowsBothSets : eventful.resetHeld = false ∧ attn eventful = true ∧ held_.resetHeld = true ∧
    attn unit = false ∧ exec .powerOn State.reset = .next State.reset := ⟨rfl, by decide, rfl, by decide, rfl⟩

/-! ### The resets of the port -/

theorem test_witness_DeckResetClearsTapeWork : commandReady (inserting .full (moving .insert)) ∧
    shaped (inserting .full (moving .insert)) ∧ (inserting .full (moving .insert)).edit.state ≠ .idle ∧
    (inserting .full (moving .insert)).port.mode ≠ .play :=
  ⟨⟨⟨rfl, rfl⟩, rfl⟩, ⟨ringPlaced_check (by decide), by unfold tablesShaped; decide +kernel⟩, by decide, by decide⟩
theorem test_deck_reset : after (fun d => (d.port.mode, (entryAt 5 d).map Entry.status, d.edit.state)) (.deckReset [])
    (inserting .full (moving .insert)) = some (.play, some (some .cancelled), .idle) := by decide +kernel
def looped : Device := { linked with config := some (configFor .loop) }
theorem test_witness_LinkRestartRejoins : (cfg unit).linkMode = .off ∧ (cfg linked).linkMode = .normal ∧
    (cfg looped).linkMode = .loop ∧ commandReady looped ∧ shaped looped ∧ linked.link.attachment = .attached ∧
    chaseRunning (chasing .locked linked).chase = true :=
  ⟨rfl, rfl, rfl, ⟨⟨rfl, rfl⟩, rfl⟩, ⟨ringPlaced_check (by decide), by unfold tablesShaped; decide⟩, rfl, rfl⟩
/-- A station that owns slots 1 and 4 and has queued claims of slots 2 and 7, its Link Port at `l`. -/
def owning (l : Link) : Device :=
  { withSlot 4 { ownedBy 2 with drive := some .driving } (withSlot 1 (ownedBy 2)
      (withSlot 7 { SlotEntry.free with ownClaim := true } (withSlot 2 { SlotEntry.free with ownClaim := true } linked)))
    with link := l }
theorem test_witness_tableCleared :
    let d := owning linked.link
    commandReady d ∧ shaped d ∧ tablesShaped d ∧ (cfg d).linkMode = .normal ∧ d.link.attachment = .attached ∧
    ((slotEntry 4 d).owner = some (cfg d).station ∧ ∀ j, j ≤ 11 → (slotEntry j d).owner = some (cfg d).station → j ≤ 4) ∧
    ((slotEntry 7 d).ownClaim = true ∧ ∀ j, j ≤ 11 → (slotEntry j d).ownClaim = true → j ≤ 7) ∧
    (∀ k, k ≤ 11 → (slotEntry k linked).owner ≠ some (cfg linked).station ∧ (slotEntry k linked).ownClaim = false) :=
  ⟨⟨⟨rfl, rfl⟩, rfl⟩, ⟨ringPlaced_check (by decide), by unfold tablesShaped; decide +kernel⟩,
    by unfold tablesShaped; decide +kernel, by decide +kernel⟩
theorem test_table_cleared :
    let told := fun (d : Device) => (d.events.details.getD 3 none, d.events.details.getD 2 none,
      d.events.details.getD 1 none, d.table.all (· == SlotEntry.free))
    let cleared := some (some (EventDetail.slotLost 4 .detached), some (EventDetail.claimResult 7 (some .detached)), none, true)
    after told (.linkRestart []) (owning linked.link) = cleared ∧
    after told .echoFaults (owning { linked.link with echoRun := 3 }) = cleared ∧
    after told (.wordReferencePeriod { aPeriod with frame := { recessiveFrame with marker := true } })
      (owning { linked.link with frameCount := 5, misplacedPrevious := true }) = cleared := by decide +kernel
theorem test_link_restart : after (fun d => (d.link.attachment, d.chase.state)) (.linkRestart [])
      (chasing .locked linked) = some (.listen, .holdover) ∧
    after (fun d => d.link.attachment) (.linkRestart []) looped = some .attached := by decide +kernel

/-! ### Periods, stripes and windows -/

theorem test_witness_UnconfiguredDeviceIsSilent : held_.resetHeld = true ∧ configured Device.reset = false := ⟨rfl, rfl⟩
theorem unit_offLink : offLink unit := ⟨rfl, rfl, rfl, rfl, rfl⟩
theorem moving_offLink (m : Mode) : offLink (moving m) := ⟨rfl, rfl, rfl, rfl, rfl⟩
def recordingAt (st : RecorderState) (fill : Option Position) (d : Device) : Device :=
  { d with recorder := { Recorder.initial with state := st, fill := fill, markOwed := true, program := some 42 } }
/-- A fill of segment 4 at an offset. -/
def filling (o : Nat) : Device := recordingAt .filling (some { segment := 4, offset := o }) (moving .record)
/-- The confidence playout RUNNING at 6:o. -/
def monitoring (o : Nat) (d : Device) : Device := confAt 6 o (putSegment (sounding 6 .confOut) d)
theorem test_witness_PeriodsCarryRoutedPairs :
    offLink unit ∧ chaseStands unit ∧ playStays unit ∧ shaped unit ∧ confStays unit ∧ unit.recorder.state ≠ .filling ∧
    sourceFor .mainOut (lineTo .mainOut unit) = .lineIn ∧ offLink (filling 1) ∧ playStays (filling 1) ∧
    shaped (withSegment 4 .fill (filling 1)) ∧ confStays (withSegment 4 .fill (filling 1)) ∧
    (heldIn .fill 4 (withSegment 4 .fill (filling 1))).isSome = true ∧ heldIn .fill 4 (filling 479) = none ∧
    endsLater 479 (periodOf true) ∧ endsLater 478 (periodOf false) ∧ slotOf 4 (filling 0) = none ∧
    slotOf 4 (withSegment 20 .encoded (filling 0)) ≠ none ∧ heldIn .fill 4 (withSegment 20 .encoded (filling 0)) = none ∧
    (monitoring 479 unit).ring.conf = { running := true, position := { segment := 6, offset := 479 } } ∧
    (heldIn .confOut 6 (monitoring 479 unit)).isSome = true ∧ shaped (monitoring 479 unit) ∧
    1 ≤ (cfg (monitoring 479 unit)).recoveryCount :=
  ⟨unit_offLink, by unfold chaseStands; decide, ⟨rfl, Or.inl (by decide)⟩, unit_shaped, ⟨rfl, noneIn_check (by decide)⟩,
    by decide, by decide, ⟨rfl, rfl, rfl, rfl, rfl⟩, ⟨rfl, Or.inr (Or.inl rfl)⟩,
    ⟨ringPlaced_check (by decide), by unfold tablesShaped; decide +kernel⟩, ⟨rfl, noneIn_check (by decide)⟩, by decide,
    by decide, Or.inr ⟨rfl, rfl⟩, Or.inl (by decide), by decide, by decide, by decide, rfl, by decide +kernel,
    ⟨ringPlaced_check (by decide +kernel), by unfold tablesShaped; decide +kernel⟩, by decide⟩
theorem test_periods_routed : after (fun d => (d.outputs.main, d.router.mainRight)) (.wordReferencePeriod aPeriod)
      (lineTo .mainOut unit) = some (aPeriod.lineIn, 7) ∧
    after (fun d => ((heldIn .fill 4 d).bind Segment.new).bind (fun l => l[0]?)) (.wordReferencePeriod aPeriod)
      (lineTo .recordFeed (filling 0)) = some (some (some aPeriod.lineIn)) := by decide +kernel
theorem test_periods_monitored : after (fun d => (d.outputs.monitor, d.ring.conf.position.offset, d.counters.conf))
    (.wordReferencePeriod aPeriod) (monitoring 0 (clean unit)) = some ({ left := 1000, right := 1000 }, 1, CounterSet.zero) := by decide +kernel
theorem test_witness_PlayPairIsConcealedAndMixed :
    let d := running 478 (moving .insert)
    offLink d ∧ chaseStands d ∧ confStays d ∧ d.recorder.state ≠ .filling ∧ shaped d ∧ d.ring.play.state = .running ∧
    d.ring.play.position = { segment := 100, offset := 478 } ∧ headWaits { segment := 100, offset := 478 } d ∧
    1 ≤ (cfg d).recoveryCount ∧ d.edit.insertion = none ∧
    (∀ ph ∈ [Phase.fadeIn, Phase.full, Phase.fadeOut],
      let x := running 478 (fading ph 31 (moving .insert))
      headWaits { segment := 100, offset := 478 } x ∧ x.edit.insertion = some 5 ∧ x.edit.phase = some ph ∧
      (ph ≠ .full → x.edit.fade.map (fun f => (f.step + 1, f.length)) = some (32, 32)) ∧
      (entryAt 5 x).map Entry.state = some .inserting ∧ (heldIn .playout 100 x).isSome = true) ∧
    (running 478 (fading .fadeOut 0 (moving .insert))).edit.fade.map Fade.step = some 0 := by
  refine ⟨⟨rfl, rfl, rfl, rfl, rfl⟩, by unfold chaseStands; decide, ⟨rfl, noneIn_check (by decide)⟩, by decide,
    ⟨ringPlaced_check (by decide +kernel), by unfold tablesShaped; decide +kernel⟩, rfl, rfl,
    headWaits_check (by decide +kernel) (by decide +kernel), by decide, rfl, fun ph hp => ?_, by decide⟩
  simp only [List.mem_cons, List.not_mem_nil, or_false] at hp
  rcases hp with rfl | rfl | rfl <;>
    exact ⟨headWaits_check (by decide +kernel) (by decide +kernel), by decide, by decide, by decide, by decide,
      by decide +kernel⟩
/-- A pair halfway through a fade-in of 32 samples carries half the tape's 1000 and half the line's pair. -/
theorem test_play_pair_mixed : after (fun d => (d.edit.gain, d.outputs.main.left, d.edit.phase))
      (.wordReferencePeriod aPeriod) (running 7 (clean (fading .fadeIn 15 (moving .insert)))) =
      some (128, 502, some .fadeIn) ∧
    after (fun d => (d.edit.gain, d.edit.phase, d.edit.insertion)) (.wordReferencePeriod aPeriod)
      (running 7 (fading .fadeOut 31 (moving .insert))) = some (0, none, none) := by decide +kernel
/-- A segment with the pair of an offset LOST. -/
def lostAt (i : Nat) (r : Segment) : Segment := { r with old := r.old.map (·.set i lostPair) }
theorem test_play_pair_concealed : after (fun d => (d.outputs.main, d.counters.play.concealed, d.conceal.playLeft.state))
    (.wordReferencePeriod aPeriod) (playAt .running 100 0
      (putSegment (lostAt 0 (sounding 100 .playout)) (clean (moving .play)))) =
    some ({ left := 0, right := 0 }, 2, .holding) := by decide +kernel
/-- The head of work waits for 100:7 with an action, a fade code and the lock bit. -/
def waitingFor (a : Action) (code : Nat) (lock : Bool) (o : Nat) (d : Device) : Device :=
  let e := anEntry .pending .localPort
  let x := withEntry 6 { e with
    target := some { segment := 100, offset := o }
    post := { e.post with tag := 8, action := a, fadeCode := code, requiresLock := lock } } d
  { x with edit := { x.edit with state := derivedState x } }
/-- RECORD_FEED from a link slot whose copy status is UNKNOWN. -/
def unknownFeed (d : Device) : Device :=
  { withSlot 3 { ownedBy 5 with copy := some .unknown } d with router := { d.router with
      routes := d.router.routes.set 7 { source := .linkRx 3, destination := .recordFeed, enabled := true } } }
/-- With a retired chained PUNCH_IN in front. -/
def afterChain (d : Device) : Device :=
  let e := anEntry .retired .localPort
  withEntry 5 { e with post := { e.post with chained := true } } d
theorem test_witness_EntriesFireAtTheirPair :
    let d := running 7 (waitingFor .punchIn 0 false 7 (moving .insert))
    (offLink d ∧ chaseStands d ∧ confStays d ∧ shaped d ∧ d.ring.play.state = .running ∧ headOfWork d = some 6 ∧
      (entryAt 6 d).bind Entry.target = some { segment := 100, offset := 7 } ∧
      (∀ p x, entryAt p d = some x → x.state = .pending → x.fired = false → p = 6) ∧ d.edit.insertion ≠ some 6 ∧
      d.edit.phase ≠ some .fadeOut ∧ 1 ≤ (cfg d).recoveryCount) ∧
    (headOfWork (running 7 (waitingFor .mark 0 false 6 (moving .insert))) = some 6 ∧
      (moving .play).port.mode ≠ .insert ∧ (moving .insert).chase.state ≠ .locked ∧
      heldIn .playout 100 (playAt .running 100 7 (moving .insert)) = none ∧ d.edit.insertion = none ∧
      (feedIn aPeriod d).status = .openCopy ∧ (feedIn aPeriod (unknownFeed d)).status = .unknown ∧
      isChainedOut 6 (afterChain (running 7 (waitingFor .punchOut 0 false 7 (moving .insert)))) = true ∧
      (heldIn .playout 100 d).isSome = true) ∧
    let y := running 7 (waitingFor .punchOut 1 false 7 (fading .full 0 (moving .insert)))
    headOfWork y = some 6 ∧ y.edit.insertion = some 5 ∧ (entryAt 5 y).map Entry.state = some .inserting ∧
    firedOut y = none ∧ (∀ p x, entryAt p y = some x → x.state = .pending → x.fired = false → p = 6) :=
  ⟨⟨⟨rfl, rfl, rfl, rfl, rfl⟩, by unfold chaseStands; decide, ⟨rfl, noneIn_check (by decide)⟩,
      ⟨ringPlaced_check (by decide +kernel), by unfold tablesShaped; decide +kernel⟩, rfl, by decide +kernel,
      by decide +kernel, onlyWaiting_check (by decide +kernel), by decide, by decide, by decide⟩,
    by decide +kernel, by decide +kernel, by decide, by decide +kernel, by decide +kernel,
    onlyWaiting_check (by decide +kernel)⟩
/-- The head of work is a chained PUNCH_IN for 100:o; its PUNCH_OUT has the same target, and a MARK of another poster
behind them waits for the next segment. -/
def chainFiring (o : Nat) (d : Device) : Device :=
  let e := anEntry .pending .localPort
  let x := withEntry 6 { e with target := some { segment := 100, offset := o }, post := { e.post with chained := true } }
    (withEntry 7 { e with
      target := some { segment := 100, offset := o }, post := { e.post with tag := 8, action := .punchOut } }
      (withEntry 8 { anEntry .pending (.station 1) with target := some { segment := 101, offset := 0 } } d))
  { x with edit := { x.edit with state := .waiting } }
theorem test_witness_EntriesFireAtTheirPair_chain :
    let d := running 7 (chainFiring 7 (moving .play))
    let x := running 7 (withEntry 7 (anEntry .retired .localPort) (chainFiring 7 (moving .insert)))
    (headOfWork d = some 6 ∧ (entryAt 6 d).bind Entry.target = some { segment := 100, offset := 7 } ∧ d.port.mode ≠ .insert ∧
      isChain 6 7 d ∧ isChain 6 7 (running 7 (chainFiring 6 (moving .insert))) ∧
      (∀ p x, entryAt p d = some x → x.state = .pending → x.fired = false → p ≠ 6 →
        isChain 6 p d ∨ waitsLater { segment := 100, offset := 7 } x)) ∧
    headOfWork x = some 6 ∧ (∀ p y, entryAt p x = some y → y.state = .pending → y.fired = false → p ≠ 6 →
      waitsLater { segment := 100, offset := 7 } y) := by
  refine ⟨⟨by decide +kernel, by decide +kernel, by decide, isChain_next rfl (by decide) rfl rfl (by decide),
    isChain_next rfl (by decide) rfl rfl (by decide), fun p x hx hs hf hp => ?_⟩, by decide +kernel,
    fun p y hy hs hf hp t ht => ?_⟩
  · have h := entriesAll_check (d := running 7 (chainFiring 7 (moving .play)))
      (f := fun e q => q == 6 || q == 7 || e.target == some { segment := 101, offset := 0 }) (by decide +kernel) p x hx
    simp only [Bool.or_eq_true, beq_iff_eq] at h
    rcases h with (h | h) | h
    · exact absurd h hp
    · subst h
      exact Or.inl (isChain_next (p := 6) rfl (by decide) rfl rfl (by decide))
    · exact Or.inr fun t ht => by
        rw [h, Option.some.injEq] at ht
        exact ht ▸ by decide
  · have h := entriesAll_check (d := running 7 (withEntry 7 (anEntry .retired .localPort) (chainFiring 7 (moving .insert))))
      (f := fun e q => q == 6 || e.state == .retired || e.target == some { segment := 101, offset := 0 })
      (by decide +kernel) p y hy
    simp only [Bool.or_eq_true, beq_iff_eq] at h
    rcases h with (h | h) | h
    · exact absurd h hp
    · rw [hs] at h
      cases h
    · rw [h, Option.some.injEq] at ht
      exact ht ▸ by decide
theorem test_firing_chain :
    let st := fun (d : Device) => after (fun d => [6, 7, 8].map (fun p => (entryAt p d).bind Entry.status))
      (.wordReferencePeriod aPeriod) d
    st (running 7 (chainFiring 7 (moving .play))) = some [some .refusedMode, some .skipped, none] ∧
    st (running 7 (chainFiring 6 (moving .insert))) = some [some .late, some .skipped, none] := by decide +kernel
theorem test_firing : after (fun d => ((entryAt 6 d).map Entry.state, d.edit.gain, d.edit.insertion))
      (.wordReferencePeriod aPeriod) (running 7 (waitingFor .punchIn 0 false 7 (moving .insert))) =
      some (some .inserting, 256, some 6) ∧
    after (fun d => ((entryAt 6 d).map Entry.outcome, d.edit.gain, d.edit.phase)) (.wordReferencePeriod aPeriod)
      (running 7 (waitingFor .punchOut 1 false 7 { fading .full 0 (moving .insert) with
        edit := { (fading .full 0 (moving .insert)).edit with gain := 256 } })) =
      some (some (some .done), 248, some .fadeOut) := by decide +kernel
theorem test_firing_refused :
    let st := fun (d : Device) => after (fun d => (entryAt 6 d).bind Entry.status) (.wordReferencePeriod aPeriod) d
    st (running 7 (waitingFor .mark 0 false 7 (moving .play))) = some (some .refusedMode) ∧
    st (running 7 (waitingFor .mark 0 true 7 (moving .insert))) = some (some .notLocked) ∧
    st (playAt .running 100 7 (waitingFor .mark 0 false 7 (moving .insert))) = some (some .broken) ∧
    st (running 7 (waitingFor .punchOut 0 false 7 (moving .insert))) = some (some .refusedState) ∧
    st (running 7 (afterChain (waitingFor .punchOut 0 false 7 (moving .insert)))) = some (some .skipped) ∧
    st (unknownFeed (running 7 (waitingFor .punchIn 0 false 7 (moving .insert)))) = some (some .refusedCopy) ∧
    st (running 7 (waitingFor .mark 0 false 6 (moving .insert))) = some (some .late) := by decide +kernel
/-- A station on the link at a frame count that drives slot 3, with the line routed to it. -/
def driving (mode : LinkMode) (count : Nat) : Device :=
  let d := lineTo (.linkTx 3) { withSlot 3 { ownedBy 2 with drive := some .driving } linked with
    config := some (configFor mode) }
  { d with link := { d.link with frameCount := count, quiet := 255 } }
/-- The conditions of `deckRests` for a device with no chase running and its motion not PLAYING. -/
theorem deckRests_check {d : Device} (h : d.resetHeld = false) (h1 : configured d = true) (h2 : shaped d)
    (h3 : (!chaseRunning d.chase && d.chase.state != .holdover) = true) (h4 : d.ring.play.state = .stopped)
    (h5 : d.port.motion ≠ .playing) (h6 : confStays d) (h7 : d.recorder.state ≠ .filling)
    (h8 : d.edit.insertion = none) : deckRests d := by
  simp only [Bool.and_eq_true, Bool.not_eq_true', bne_iff_ne, ne_eq] at h3
  exact ⟨h, h1, h2, ⟨fun h => by simp [h3.1] at h, fun h => absurd h h3.2⟩, ⟨h4, Or.inl h5⟩, h6, h7, h8⟩

/-- A frame with neither message bit nor marker, and no absence near its end. -/
theorem frameQuiet_check {f : Frame} {d : Device}
    (h : (!f.message && !f.marker && (List.range 12).all (fun k => decide ((slotEntry k d).absence + 1 < 2400))) = true) :
    frameQuiet f d := by
  simp only [Bool.and_eq_true, Bool.not_eq_true', List.all_eq_true, List.mem_range, decide_eq_true_eq] at h
  exact ⟨h.1.1, fun hm => by simp [h.1.2] at hm, fun k hk => Or.inr (h.2 k (by omega))⟩

/-- The station on the link with its Link Port at `l`. -/
def linkedAs (l : Link) : Device := { linked with link := l }
theorem linkedAs_rests (l : Link) : deckRests (linkedAs l) :=
  deckRests_check rfl rfl linked_shaped (by rfl) rfl
    (show linked.port.motion ≠ .playing by decide) ⟨rfl, noneIn_check (by rfl)⟩
    (show linked.recorder.state ≠ .filling by decide) rfl
/-- That station with its receiver in a state. -/
def receiverIn (r : Receiver) (bits : List Bool) (run : Nat) : Device :=
  linkedAs { linked.link with receiver := r, bits := bits, skipRun := run }
/-- A status word of station 5, and a station before the word's last bit in slot 4, which station 5 owns. -/
def heardWord : BitVec 64 :=
  makeWord { owner := 5, copy := .counted1, motion := .playing, position := { segment := 77, offset := 5 } }
def hearing : Device :=
  let d := withSlot 4 (ownedBy 5) linked
  { d with link := { d.link with frameCount := 63, words := d.link.words.set 4 (heardWord >>> 1) } }
/-- A period whose frame has the last bit of that word in slot 4, present. -/
def hearingPeriod : Period :=
  { aPeriod with frame := { recessiveFrame with
      slots := recessiveFrame.slots.set 4 { recessiveSlot with present := true, status := !heardWord.getLsbD 0 } } }
/-- A period with a marker, or with a message bit. -/
def markedPeriod (marker message : Bool) : Period :=
  { aPeriod with frame := { recessiveFrame with marker := marker, message := message } }
theorem test_witness_LinkFrameIsDrivenAndRead :
    (deckRests (driving .normal 0) ∧ (driving .loop 62).link.attachment = .attached ∧ (driving .loop 62).link.queue = [] ∧
      (driving .loop 62).link.receiver = .idle ∧ (driving .normal 62).link.frameCount < 63 ∧
      frameQuiet aPeriod.frame (driving .normal 0)) ∧
    (deckRests hearing ∧ hearing.link.attachment = .attached ∧ hearing.link.queue = [] ∧
      hearing.link.receiver = .idle ∧ hearing.link.frameCount = 63 ∧ (cfg hearing).linkMode = .normal ∧
      (slotEntry 4 hearing).owner = some 5 ∧ 5 ≠ (cfg hearing).station ∧ validWord heardWord = true ∧
      (readWord heardWord).owner = 5 ∧ (slotBits 4 hearingPeriod.frame).present = true ∧
      hearing.link.words.getD 4 0 <<< 1 ||| (if (slotBits 4 hearingPeriod.frame).status then 0 else 1) = heardWord) ∧
    ((∀ l, deckRests (linkedAs l)) ∧ (receiverIn .idle [] 0).link.queue = [] ∧
      (markedPeriod false true).frame.message = true ∧ (markedPeriod false true).frame.marker = false ∧
      (receiverIn .receiving (List.replicate 20 true) 0).link.bits.length + 1 < 22 ∧
      (receiverIn .skip [] 10).link.skipRun + 1 < 12) :=
  ⟨⟨deckRests_check rfl rfl ⟨ringPlaced_check (by decide), by unfold tablesShaped; decide +kernel⟩ (by rfl) rfl (by decide)
      ⟨rfl, noneIn_check (by decide)⟩ (by decide) rfl, rfl, rfl, rfl, by decide, frameQuiet_check (by decide +kernel)⟩,
    ⟨deckRests_check rfl rfl ⟨ringPlaced_check (by decide), by unfold tablesShaped; decide +kernel⟩ (by rfl) rfl (by decide)
      ⟨rfl, noneIn_check (by decide)⟩ (by decide) rfl, rfl, rfl, rfl, rfl, rfl, by decide +kernel⟩,
    ⟨linkedAs_rests, rfl, rfl, rfl, by decide, by decide⟩⟩
/-- The station of `driving` with TAPE routed to its slot and the play playout RUNNING at 100:o. -/
def playingOn (mode : LinkMode) (count o : Nat) : Device :=
  let d := driving mode count
  running o { d with
    port := { d.port with motion := .playing }
    router := { d.router with routes := d.router.routes.set 7 { source := .tape, destination := .linkTx 3, enabled := true } } }
theorem test_witness_LinkFrameIsDrivenAndRead_playing :
    let d := playingOn .normal 0 478
    d.resetHeld = false ∧ configured d = true ∧ shaped d ∧ chaseStands d ∧ confStays d ∧ d.recorder.state ≠ .filling ∧
    d.ring.play.state = .running ∧ d.ring.play.position = { segment := 100, offset := 478 } ∧
    headWaits { segment := 100, offset := 478 } d ∧ 1 ≤ (cfg d).recoveryCount ∧ d.edit.insertion = none ∧
    d.link.attachment = .attached ∧ d.link.queue = [] ∧ d.link.receiver = .idle ∧
    (playingOn .loop 62 478).link.frameCount < 63 ∧ frameQuiet aPeriod.frame d ∧ (heldIn .playout 100 d).isSome = true :=
  ⟨rfl, rfl, ⟨ringPlaced_check (by decide +kernel), by unfold tablesShaped; decide +kernel⟩, by unfold chaseStands; decide,
    ⟨rfl, noneIn_check (by decide)⟩, by decide, rfl, rfl, headWaits_check (by decide +kernel) (by decide +kernel), by decide,
    rfl, rfl, rfl, rfl, by decide, frameQuiet_check (by decide +kernel), by decide +kernel⟩
/-- At frame 0 the word latched carries the position after the pair where the delivery comes first. -/
theorem test_link_frame_playing : after (fun d => ((d.outputs.driven.slots.getD 3 recessiveSlot).samples,
      (relayOf 3 d).history, (relayOf 3 d).word.map (fun w => (readWord w).position), d.ring.play.position.offset))
      (.wordReferencePeriod aPeriod) (clean (playingOn .normal 0 478)) =
    some ({ left := 1000, right := 1000 }, [.unknown], some { segment := 100, offset := 479 }, 479) := by decide +kernel
theorem test_frame_63 : after (fun d => (d.link.frameCount, (slotEntry 4 d).copy, (slotEntry 4 d).lastWord))
    (.wordReferencePeriod hearingPeriod) hearing =
    some (0, some .counted1, some { position := { segment := 77, offset := 5 }, motion := .playing }) := by decide +kernel
/-- The station's claim of slot 0 on the link: `i` of its bits are out, and the frame count is in the multiframe. -/
def claimSent (losses echoes i : Nat) : Device :=
  let m : Queued := { aMessage .localClaim with losses := losses, sent := if i = 0 then none else some i }
  let d := linkedAs { linked.link with
    queue := [m], echoRun := echoes, quiet := if i = 0 then 8 else 0
    receiver := if i = 0 then .idle else .receiving, bits := (messageBits 2 m).take i }
  { d with table := d.table.set 0 { SlotEntry.free with ownClaim := true } }
/-- A period that reads a message bit, with every slot driven. -/
def readsBit (b : Bool) : Period :=
  { aPeriod with frame := { recessiveFrame with
      message := b, slots := List.replicate 12 { recessiveSlot with present := true } } }
theorem test_witness_LinkFrameIsDrivenAndRead_send :
    let code := messageBits (cfg (claimSent 0 0 0)).station (aMessage .localClaim)
    (∀ losses echoes i, deckRests (claimSent losses echoes i)) ∧ nothingWaits (claimSent 15 2 37) ∧
    messageInRange (aMessage .localClaim) ∧ (cfg (claimSent 0 0 0)).station ≤ 7 ∧
    (claimSent 0 0 0).link.frameCount < 63 ∧ code.length = 38 ∧ code.getD 0 false = true ∧ code.getD 1 false = true ∧
    code.getD 4 true = false ∧ 8 + (claimSent 0 0 0).link.yieldCount ≤ (claimSent 0 0 0).link.quiet ∧
    (claimSent 0 0 37).link.bits = code.take 37 ∧ (slotEntry 0 (claimSent 0 0 37)).owner = none ∧
    (readsBit true).frame.marker = false ∧ (slotBits 11 (readsBit true).frame).present = true :=
  ⟨fun losses echoes i => deckRests_check rfl rfl
      ⟨linked_shaped.1, rfl, by show 0 < 32; decide, by show 0 < 32; decide, rfl, rfl, rfl, rfl, rfl, rfl, rfl⟩ (by rfl) rfl
      (show linked.port.motion ≠ .playing by decide) ⟨rfl, noneIn_check (by rfl)⟩
      (show linked.recorder.state ≠ .filling by decide) rfl,
    nothingWaits_check (by decide +kernel), by unfold messageInRange; decide, by decide +kernel⟩
/-- The station's release of slot 0, which it drives, on the link with `i` bits out. -/
def releaseSent (i : Nat) : Device :=
  let m : Queued := { aMessage .localRelease with kind := 3, sent := some i }
  let d := linkedAs { linked.link with queue := [m], receiver := .receiving, bits := (messageBits 2 m).take i }
  { d with table := d.table.set 0 { ownedBy 2 with drive := some .driving, ownRelease := .queued } }
theorem test_witness_LinkFrameIsDrivenAndRead_release :
    let code := messageBits 2 { aMessage .localRelease with kind := 3 }
    deckRests (releaseSent 37) ∧ nothingWaits (releaseSent 37) ∧ code.length = 38 ∧
    (slotEntry 0 (releaseSent 37)).owner = some (cfg (releaseSent 37)).station ∧
    (releaseSent 37).link.bits = code.take 37 :=
  ⟨deckRests_check rfl rfl ⟨linked_shaped.1, by unfold tablesShaped; decide +kernel⟩ (by rfl) rfl
      (show linked.port.motion ≠ .playing by decide) ⟨rfl, noneIn_check (by rfl)⟩
      (show linked.recorder.state ≠ .filling by decide) rfl, nothingWaits_check (by decide +kernel), by decide +kernel⟩
theorem test_own_release :
    let bit := (messageBits 2 { aMessage .localRelease with kind := 3 }).getD 37 false
    after (fun d => (d.link.queue, slotEntry 0 d, d.events.details.getD 1 none)) (.wordReferencePeriod (readsBit bit))
      (releaseSent 37) = some ([], SlotEntry.free, some (.slotChange 0 none .released)) := by decide +kernel
theorem test_own_send :
    let bit := fun i => (messageBits 2 (aMessage .localClaim)).getD i false
    after (fun d => (d.outputs.driven.message, d.link.queue.map Queued.sent)) (.wordReferencePeriod (readsBit true))
      (claimSent 0 0 0) = some (true, [some 1]) ∧
    after (fun d => (d.link.queue, d.link.yieldCount, (slotEntry 0 d).owner)) (.wordReferencePeriod (readsBit (bit 37)))
      (claimSent 0 0 37) = some ([], 3, some 2) ∧
    after (fun d => d.link.queue.map Queued.losses) (.wordReferencePeriod (readsBit true)) (claimSent 14 0 4) =
      some [15] ∧
    after (fun d => d.link.queue) (.wordReferencePeriod (readsBit true)) (claimSent 15 0 4) = some [] ∧
    after (fun d => (d.link.attachment, d.link.echoRun)) (.wordReferencePeriod (readsBit false)) (claimSent 0 1 1) =
      some (.attached, 2) ∧
    after (fun d => d.link.attachment) (.wordReferencePeriod (readsBit false)) (claimSent 0 2 1) = some .listen := by
  decide +kernel
theorem test_link_frame : after (fun d => (d.outputs.driven.marker, (d.outputs.driven.slots.getD 3 recessiveSlot).samples,
      (relayOf 3 d).history)) (.wordReferencePeriod aPeriod) (driving .normal 0) =
      some (true, aPeriod.lineIn, [.openCopy]) ∧
    after (fun d => (d.outputs.driven, d.link.received.getD 3 silentPair, d.link.quiet)) (.wordReferencePeriod aPeriod)
      (driving .loop 62) = some (recessiveFrame, aPeriod.lineIn, 255) := by decide +kernel



def subcodeBlock (x : Subcode) : BlockRecord := .present (subcodeContent x) (octetsOf 4) .sound
def aStripe (n : Nat) : List BlockRecord :=
  List.replicate 36 soundBlock ++ [subcodeBlock (aSubcode n), subcodeBlock (aSubcode n)]
theorem test_stripe_subcode : (stripeSubcode (aStripe 16777215)).map Subcode.segment = some 16777215 := by decide +kernel
theorem test_stripe_subcode_lowest : stripeSubcode (aStripe 0) = some (aSubcode 0) := by decide +kernel
def aQueued (st : TapeStream) (n : Nat) (h : Head) : QueuedStripe :=
  { stream := st, segment := n, head := h, subcode := some (aSubcode n), blocks := aStripe n
    lateSeen := false }
def decoding (q : List QueuedStripe) (running : Bool) (d : Device) : Device :=
  { d with decoder := { d.decoder with queue := q, inFlight := running } }
/-- Four stripes in the queue. -/
def queueFull (d : Device) : Device :=
  { d with decoder := { d.decoder with queue := List.replicate 4 (aQueued .advance 99 .a), inFlight := true } }
def expecting (n : Nat) (h : Head) (d : Device) : Device :=
  { d with decoder := { d.decoder with advance := some { segment := n, head := h }
                                       confidence := some { segment := n, head := h } } }
def numberless : List BlockRecord := List.replicate 38 soundBlock
def gatherOf (a : Bool) : Segment := { sounding 17 .gather with advanceA := a }
def searching : Device :=
  { moving .play with search := { (moving .play).search with
      patterns := [{ Pattern.initial with enabled := true, count := 1 }, Pattern.initial,
        { Pattern.initial with enabled := true, segmentEnabled := true, segmentValue := 18, matches_ := 3, count := 8 },
        { Pattern.initial with enabled := true, count := 2 }] } }
theorem test_witness_AdvanceStripesAreTakenOrRefused :
    let d := moving .play
    d.resetHeld = false ∧ configured d = true ∧ shaped d ∧ (∀ p ∈ d.search.patterns, p.enabled = false) ∧ records d = [] ∧
    (isNumbered none .a (some (aSubcode 17)) 17 ∧ isNumbered (some { segment := 17, head := .a }) .b none 17 ∧
      isNumbered (some { segment := 16777214, head := .b }) .a none 16777215 ∧ isUnnumbered none .a none ∧
      isUnnumbered (some { segment := 16777215, head := .b }) .b none) ∧
    d.port.motion = .playing ∧ d.port.mode ≠ .record ∧ d.ring.play.state ≠ .running ∧ slotOf 17 d = none ∧
    d.decoder.queue.length < 4 ∧ 4 ≤ (queueFull d).decoder.queue.length ∧ unit.port.motion ≠ .playing ∧
    (heldIn .gather 17 (putSegment (gatherOf true) d)).map (takenFlag .advance .a) = some true ∧
    (heldIn .gather 17 (putSegment (gatherOf false) d)).map (takenFlag .advance .a) = some false ∧
    (∀ r ∈ records (putSegment (gatherOf true) d), r.state = .gather → 17 ≤ r.number) ∧
    slotOf 17 (withSegment 1 .written d) ≠ none ∧ heldIn .gather 17 (withSegment 1 .written d) = none ∧
    searching.search.compared ≠ some 17 ∧ searching.search.patterns.map (patternMatches · (aSubcode 17)) =
      [true, true, false, true] ∧
    nothingOutstanding .advance (gatherOf true) (putSegment (gatherOf true) d) ∧
    ¬ nothingOutstanding .advance (gatherOf true)
      (decoding [aQueued .advance 17 .a] true (putSegment (gatherOf true) d)) := by
  refine ⟨rfl, rfl, moving_shaped _, by decide, by decide, ⟨rfl, ⟨_, rfl, rfl⟩, ⟨_, rfl, by decide⟩, ⟨rfl, by intro y h; cases h⟩,
    ⟨rfl, ?_⟩⟩, rfl, by decide, by decide, by decide, by decide, by decide, by decide, by decide +kernel, by decide +kernel,
    by decide +kernel, by decide +kernel, by decide +kernel, by decide, by decide +kernel, ?_, ?_⟩
  · intro y h
    cases h
    exact ⟨by decide, by decide⟩
  · intro q hq
    cases hq
  · intro h
    exact absurd (h (aQueued .advance 17 .a) (List.mem_cons_self ..) rfl rfl) (by decide)
theorem test_advance_refused : after (fun d => d.events.details.getD 16 none)
      (.advanceStripeArrival .a (aStripe 17)) (withSegment 1 .written (moving .play)) =
        some (some (.ringOverrun .advance 17 (some .a) .slotHeld)) ∧
    after (fun d => (d.events.details.getD 16 none, d.decoder.advance)) (.advanceStripeArrival .b numberless)
      (queueFull (expecting 17 .a (moving .play))) =
        some (some (.ringOverrun .advance 17 (some .b) .queueFull), some { segment := 17, head := .b }) := by
  decide +kernel
theorem test_advance_searched : after (fun d => d.search.patterns.map (fun p => (p.enabled, p.matches_, p.lastHit)))
      (.advanceStripeArrival .a (aStripe 17)) searching =
        some [(false, 0, some 17), (false, 0, none), (true, 0, none), (true, 1, none)] ∧
    after (fun d => (held 17 d).map Segment.state) (.advanceStripeArrival .a (aStripe 18))
      (putSegment (gatherOf true) (moving .play)) = some (some .decoded) := by decide +kernel
theorem test_advance_stripe : after (fun d => ((heldIn .gather 17 d).map Segment.advanceB, d.decoder.queue.length))
    (.advanceStripeArrival .b (aStripe 17)) (moving .play) = some (some true, 1) := by decide +kernel
def verifyOf (n : Nat) (a : Bool) : Segment := { sounding n .verify with confidenceA := a }
theorem test_witness_ConfidenceStripesAreTakenOrDiscarded : (stripeSubcode (aStripe 9)).map Subcode.segment = some 9 ∧
    (heldIn .written 9 (withSegment 9 .written unit)).isSome = true ∧ (withSegment 9 .written unit).decoder.queue = [] ∧
    (∀ r ∈ records (withSegment 9 .written unit), r.state = .verify → 9 ≤ r.number) ∧
    4 ≤ (queueFull (withSegment 9 .written unit)).decoder.queue.length ∧
    (heldIn .verify 9 (putSegment (verifyOf 9 true) unit)).map (takenFlag .confidence .a) = some true ∧
    (heldIn .verify 9 (putSegment (verifyOf 9 false) unit)).map (takenFlag .confidence .a) = some false ∧
    heldIn .written 9 unit = none ∧ heldIn .verify 9 unit = none ∧ shaped (putSegment (verifyOf 8 true) unit) ∧
    nothingOutstanding .confidence (verifyOf 8 true) (putSegment (verifyOf 8 true) unit) ∧
    (heldIn .verify 8 (putSegment (verifyOf 8 true) unit)).isSome = true ∧
    closedLost (verifyOf 8 true) (putSegment (verifyOf 8 true) unit) = 32 :=
  ⟨by decide +kernel, by decide +kernel, by decide +kernel, by decide +kernel, by decide +kernel, by decide +kernel,
    by decide +kernel, by decide, by decide,
    ⟨ringPlaced_check (by decide +kernel), by unfold tablesShaped; decide +kernel⟩, (by intro q hq; cases hq),
    by decide +kernel, by decide +kernel⟩
theorem test_confidence_closes : after (fun d => (held 8 d).map (fun r => (r.state, r.confidenceTally.lost)))
    (.confidenceStripeArrival .a (aStripe 9)) (putSegment (verifyOf 8 true) unit) = some (some (.checked, 32)) := by
  decide +kernel
theorem test_confidence_stripe : after (fun d => (heldIn .verify 9 d).map Segment.confidenceA)
    (.confidenceStripeArrival .a (aStripe 9)) (withSegment 9 .written unit) = some (some true) := by decide +kernel

def someStripes : Stripes := { a := [[1]], b := [[2]] }
def encodedAt (n : Nat) (a : Bool) (d : Device) : Device :=
  putSegment { freshSegment n .encoded with stripes := some someStripes, writtenA := a } d
def aJob (n : Nat) : EncodeJob := { segment := n, stripes := someStripes }
def encodingJob (n : Nat) (horizon : Option Nat) (d : Device) : Device :=
  { d with encoder := { d.encoder with inFlight := some (aJob n), horizon := horizon } }

/-- Segment 3 half read back and segment 2 not read back, linked to the entry of place 5. -/
def verified : Device :=
  putSegment { sounding 3 .verify with writtenA := true, writtenB := true, confidenceA := true }
    (putSegment { freshSegment 2 .written with writtenA := true, writtenB := true, editLink := some 5 }
      (withEntry 5 { anEntry .verifying .localPort with
        result := some { first := some 2, last := some 2, inFlight := 1, tally := 0, weak := false, unverified := false
                         edgeConcealed := false, lockLost := false } } unit))
theorem test_witness_HeadAWindowAnswersFromRing : configured unit = true ∧ shaped unit ∧
    (heldIn .encoded 3 (encodedAt 3 false unit)).map Segment.writtenA = some false ∧ heldIn .encoded 3 unit = none ∧
    (heldIn .encoding 3 (withSegment 3 .encoding unit)).isSome = true ∧ unit.encoder.inFlight = none ∧
    (held 3 (withSegment 3 .fill unit)).map Segment.writeLate = some false ∧
    (recordingAt .awaitOrigin none (moving .record)).recorder.state = .awaitOrigin ∧ 16777213 + 2 ≤ lastSegment ∧
    lastSegment < 16777214 + 2 ∧ (encodingJob 3 none (withSegment 3 .encoding unit)).encoder.inFlight.map
      EncodeJob.segment = some 3 ∧ (cfg unit).confidence = 2 ∧ shaped verified ∧
    (held 3 verified).map (fun r => (r.state, r.writtenA)) = some (.verify, true) ∧
    (held 2 verified).map (fun r => (r.state, r.writtenA, r.editLink)) = some (.written, true, some 5) ∧
    (entryAt 5 verified).bind Entry.result ≠ none :=
  ⟨rfl, unit_shaped, by decide +kernel, by decide +kernel, by decide +kernel, by decide +kernel, by decide +kernel,
    by decide +kernel, by decide +kernel, by decide, by decide +kernel, by decide,
    ⟨ringPlaced_check (by decide +kernel), by unfold tablesShaped; decide +kernel⟩, by decide +kernel, by decide +kernel,
    by decide +kernel⟩
/-- Segment 3 in a state, linked to the VERIFYING entry of place 5, which has it in flight. -/
def linkedAt (r : Segment) : Device :=
  putSegment { r with editLink := some 5 } (withEntry 5 { anEntry .verifying .localPort with
    result := some { first := some 3, last := some 3, inFlight := 1, tally := 0, weak := false, unverified := false
                     edgeConcealed := false, lockLost := false } } unit)
def encodingLinked (late : Bool) : Device := linkedAt { freshSegment 3 .encoding with writeLate := late }
def encodedLinked : Device := linkedAt { freshSegment 3 .encoded with stripes := some someStripes }
theorem test_witness_HeadAWindowAnswersFromRing_told :
    (configured (encodingLinked false) = true ∧ shaped (encodingLinked false) ∧
      (heldIn .encoding 3 (encodingLinked false)).map (fun r => (r.editLink, r.writeLate)) = some (some 5, false) ∧
      (heldIn .encoding 3 (encodingLinked true)).map Segment.writeLate = some true ∧
      (∀ x ∈ records (encodingLinked false), x.editLink = some 5 → 3 ≤ x.number) ∧
      (encodingLinked false).encoder.inFlight = none ∧
      (encodingJob 3 none (encodingLinked false)).encoder.inFlight.map EncodeJob.segment = some 3 ∧
      ((entryAt 5 (encodingLinked false)).bind Entry.result).map EditResult.inFlight = some 1 ∧
      (encodingLinked false).edit.insertion = none) ∧
    ((heldIn .encoded 3 encodedLinked).map (fun r => (r.writtenA, r.editLink, r.writeLate)) = some (false, some 5, false) ∧
      (∀ x ∈ records encodedLinked, x.editLink = some 5 → x.number = 3 ∨ 4 ≤ x.number) ∧ held 4 encodedLinked = none ∧
      (∀ x ∈ records encodedLinked, x.editLink = some 5 → 3 ≤ x.number)) ∧
    (∀ x ∈ records verified, x.editLink = some 5 → x.number = 2 ∨ 6 < x.number) ∧
    (entryAt 5 verified).map Entry.state = some .verifying :=
  ⟨⟨rfl, ⟨ringPlaced_check (by decide +kernel), by unfold tablesShaped; decide +kernel⟩, by decide +kernel⟩, by decide +kernel⟩
/-- The status and the outcome of the entry of place 5. -/
def toldEntry (d : Device) : Option (Option EditStatus × Option EditOutcome) :=
  (entryAt 5 d).map (fun e => (e.status, e.outcome))
theorem test_head_a_told :
    after toldEntry (.writeWindowHeadA 3) (encodingLinked false) = some (some (some .broken, none)) ∧
    after toldEntry (.writeWindowHeadA 3) (encodingJob 3 none (encodingLinked false)) = some (some (none, some .broken)) ∧
    after toldEntry (.writeWindowHeadA 3) (encodingLinked true) = some (some (some .done, none)) := by decide +kernel
theorem test_head_a_stranded : after toldEntry (.writeWindowHeadA 4) encodedLinked = some (some (some .broken, none)) ∧
    after toldEntry (.writeWindowHeadA 6) verified = some (some (some .done, none)) ∧
    after (fun d => ((entryAt 5 d).bind Entry.result).bind EditResult.last) (.writeWindowHeadA 4) encodedLinked =
      some none := by decide +kernel
theorem test_head_a_window : after (fun d => (d.outputs.window, (held 3 d).map Segment.writtenA, d.encoder.horizon))
      (.writeWindowHeadA 3) (encodedAt 3 false unit) = some (some (.stripe [[1]]), some true, some 3) ∧
    after (fun d => (d.outputs.window, held 3 d)) (.writeWindowHeadA 3) (withSegment 3 .encoding unit) =
      some (some .noWrite, none) := by decide +kernel
theorem test_head_a_origin : after (fun d => (d.recorder.origin, d.recorder.fill)) (.writeWindowHeadA 16777213)
    (recordingAt .awaitOrigin none (moving .record)) =
    some (some 16777213, some { segment := 16777215, offset := 0 }) := by decide +kernel
theorem test_head_a_deadline : after (fun d => ((held 3 d).map (fun r => (r.state, r.confidenceTally.lost)), held 2 d,
      ((entryAt 5 d).bind Entry.result).map EditResult.unverified)) (.writeWindowHeadA 6) verified =
      some (some (.checked, 32), none, some true) ∧
    after (fun d => (held 3 d, d.events.details.getD 15 none)) (.writeWindowHeadA 4) (encodedAt 3 false unit) =
      some (none, some (.writeLate 3)) ∧
    after (fun d => (d.port.mode, d.recorder.state)) (.writeWindowHeadA 16777214)
      (recordingAt .awaitOrigin none (moving .record)) = some (.play, .idle) := by decide +kernel
theorem test_witness_HeadBWindowCompletesTheWriting :
    (heldIn .encoded 3 (encodedAt 3 true unit)).map (fun r => (r.writtenA, r.stripes)) = some (true, some someStripes) ∧
    heldIn .encoded 3 unit = none ∧ (heldIn .encoded 3 (encodedAt 3 false unit)).map Segment.writtenA = some false := by
  decide +kernel
theorem test_head_b_window : after (fun d => (d.outputs.window, (heldIn .written 3 d).isSome)) (.writeWindowHeadB 3)
      (encodedAt 3 true unit) = some (some (.stripe [[2]]), true) ∧
    after (fun d => d.outputs.window) (.writeWindowHeadB 3) (encodedAt 3 false unit) = some (some .noWrite) := by
  decide +kernel

/-! ### Decodes and encodes -/

def gathering (late : Bool) : Device :=
  putSegment { freshSegment 9 .gather with advanceA := true, old := some lostAudio, late := late } unit
theorem test_decode_start : after (fun d => d.decoder.inFlight) .decodeStart (decoding [aQueued .advance 9 .a] false unit) =
    some true := by decide +kernel
theorem test_witness_DecodesStartAndComplete :
    (decoding [aQueued .advance 9 .a] false unit).decoder.inFlight = false ∧
    (decoding [aQueued .advance 9 .a] false unit).decoder.queue.length = 1 ∧ unit.decoder.queue = [] ∧
    (decoding [] true unit).decoder.inFlight = true ∧ ({ aQueued .advance 9 .a with lateSeen := true }).lateSeen = true ∧
    shaped (decoding [aQueued .advance 9 .a] true (gathering false)) ∧
    (heldIn (takenState .advance) 9 (gathering false)).map (fun r => (r.late, r.valid)) = some (false, false) ∧
    (heldIn (takenState .advance) 9 (gathering true)).map Segment.late = some true ∧
    (heldIn (takenState .confidence) 9 (putSegment { freshSegment 9 .verify with valid := true } unit)).map
      (fun r => (r.late, r.valid)) = some (false, true) ∧
    heldIn (takenState .confidence) 9 unit = none :=
  ⟨by decide, by decide, by decide, by decide, rfl, ⟨ringPlaced_check (by decide), by unfold tablesShaped; decide +kernel⟩, by decide +kernel⟩
theorem test_decode_completion : after (fun d => ((held 9 d).bind Segment.subcode, d.decoder.queue.length)) .decodeCompletion
      (decoding [aQueued .advance 9 .a] true (gathering false)) = some (some (aSubcode 9), 0) ∧
    after (fun d => d.ring) .decodeCompletion (decoding [aQueued .advance 9 .a] true (gathering true)) =
      some (gathering true).ring := by decide +kernel
theorem test_decode_discarded : after (fun d => d.ring) .decodeCompletion
    (decoding [{ aQueued .advance 9 .a with lateSeen := true }] true (gathering false)) = some (gathering false).ring := by
  decide +kernel
/-- The device of a decode with the counter and the threshold of LOST of one stream. -/
def countingLost (stream : Playback) (value limit : Nat) (d : Device) : Device :=
  putCounters stream { CounterSet.zero with lost := value } { d with
    config := some { configFor .off with thresholds := (List.replicate 10 0).set (thresholdIndex stream .lost) limit } }
/-- Segment 9 in VERIFY, one stripe taken, linked to the VERIFYING entry of place 5. -/
def verifying : Device :=
  putSegment { freshSegment 9 .verify with confidenceA := true, old := some lostAudio, editLink := some 5 }
    (withEntry 5 { anEntry .verifying .localPort with
      result := some { first := some 9, last := some 9, inFlight := 1, tally := 0, weak := false, unverified := false
                       edgeConcealed := false, lockLost := false } } unit)
/-- A stripe of the confidence stream whose every block is absent. -/
def absentStripe : QueuedStripe :=
  { aQueued .confidence 9 .a with subcode := none, blocks := List.replicate 38 (.absent (octetsOf 45)) }
theorem test_witness_DecodesStartAndComplete_closing :
    let d := expecting 10 .a (decoding [aQueued .advance 9 .a] true (gathering false))
    let e := expecting 10 .a (decoding [absentStripe] true verifying)
    (shaped d ∧ (heldIn .gather 9 d).isSome = true ∧ d.decoder.queue.drop 1 = [] ∧
      (expectationOf .advance d).map (fun x => decide (9 < x.segment)) = some true) ∧
    (shaped e ∧ (heldIn .verify 9 e).bind Segment.editLink = some 5 ∧
      ((entryAt 5 e).bind Entry.result).isSome = true ∧ decodeTally absentStripe.blocks = { Tally.zero with lost := 32 }) ∧
    passesThreshold .confidence .lost 32 (countingLost .confidence 0 32 e) ∧
    ¬ passesThreshold .confidence .lost 32 (countingLost .confidence 0 33 e) ∧
    ¬ passesThreshold .confidence .lost 32 (countingLost .confidence 32 32 e) := by
  refine ⟨⟨⟨ringPlaced_check (by decide), by unfold tablesShaped; decide +kernel⟩, by decide +kernel⟩,
    ⟨⟨ringPlaced_check (by decide), by unfold tablesShaped; decide +kernel⟩, by decide +kernel⟩, ?_, ?_, ?_⟩ <;>
  (unfold passesThreshold; decide +kernel)
theorem test_decode_closes : after (fun d => (held 9 d).map Segment.state) .decodeCompletion
      (expecting 10 .a (decoding [aQueued .advance 9 .a] true (gathering false))) = some (some .decoded) ∧
    after (fun d => ((held 9 d).map (fun r => (r.state, r.confidenceTally.lost)),
        ((entryAt 5 d).bind Entry.result).map (fun x => (x.tally, x.weak)), d.events.details.getD 11 none))
      .decodeCompletion (countingLost .confidence 0 32 (expecting 10 .a (decoding [absentStripe] true verifying))) =
      some (some (.checked, 64), some (64, true), some (.errorRate .confidence .lost)) := by decide +kernel
theorem test_encode_start : after (fun d => (d.encoder.inFlight.map EncodeJob.segment, d.encoder.last)) .encodeStart
    (withSegment 4 .encoding (withSegment 3 .encoding unit)) = some (some 3, some 3) := by decide +kernel
theorem test_witness_EncodesStartAndComplete :
    let d := withSegment 4 .encoding (withSegment 3 .encoding unit)
    (ringPlaced d ∧ d.encoder.inFlight = none ∧ (heldIn .encoding 3 d).isSome = true ∧
      (∀ m, (heldIn .encoding m d).isSome = true → 3 ≤ m) ∧ noneIn [.encoding] unit ∧
      (encodingJob 3 none d).encoder.inFlight ≠ none) ∧
    shaped (encodingJob 3 (some 2) (withSegment 3 .encoding unit)) ∧
    (heldIn .encoding 3 (withSegment 3 .encoding unit)).map Segment.writeLate = some false ∧
    (heldIn .encoding 3 (putSegment { freshSegment 3 .encoding with writeLate := true } unit)).map Segment.writeLate =
      some true ∧
    (encodingJob 3 (some 3) (withSegment 3 .encoding unit)).encoder.horizon = some 3 ∧ heldIn .encoding 3 unit = none :=
  ⟨⟨ringPlaced_check (by decide), rfl, by decide, lowest_check (by decide), noneIn_check (by decide), by decide⟩,
    ⟨ringPlaced_check (by decide), by unfold tablesShaped; decide⟩, by decide, by decide, by decide, by decide⟩
/-- Segment 4 in ENCODING with its subcode: of a fill or of an insertion, by its old audio, with a decision. -/
def encodable (old : Option (List OldPair)) (st : Decision) : Segment :=
  { freshSegment 4 .encoding with old := old, decision := some st, subcode := some (aSubcode 4)
                                  new := some (List.replicate 480 (some { left := 300, right := 300 })) }
/-- An idle encoder that encoded `last` and left feedback 7 and 9. -/
def encodedLast (last : Nat) (d : Device) : Device :=
  { d with encoder := { d.encoder with last := some last, errorLeft := 7, errorRight := 9 } }
theorem test_witness_EncodesStartAndComplete_content :
    let d := encodedLast 3 (putSegment (encodable none .shut) unit)
    let busy := encodingJob 3 none (putSegment (encodable none .opened) (encodingLinked false))
    (ringPlaced d ∧ d.encoder.inFlight = none ∧ (heldIn .encoding 4 d).bind Segment.subcode = some (aSubcode 4) ∧
      (∀ m, (heldIn .encoding m d).isSome = true → 4 ≤ m)) ∧
    (shaped busy ∧ busy.encoder.inFlight = some (aJob 3) ∧
      after (fun d => (heldIn .encoding 4 d).bind Segment.subcode) .encodeCompletion busy = some (some (aSubcode 4))) ∧
    ((encodingJob 3 (some 3) (encodingLinked false)).encoder.horizon = some 3 ∧
      (heldIn .encoding 3 (encodingJob 3 (some 3) (encodingLinked true))).map Segment.writeLate = some true ∧
      shaped (encodingJob 3 (some 3) (encodingLinked false))) :=
  ⟨⟨ringPlaced_check (by decide +kernel), rfl, by decide +kernel, lowest_check (by decide +kernel)⟩,
    ⟨⟨ringPlaced_check (by decide +kernel), by unfold tablesShaped; decide +kernel⟩, rfl, by decide +kernel⟩,
    rfl, by decide +kernel, ⟨ringPlaced_check (by decide +kernel), by unfold tablesShaped; decide +kernel⟩⟩
/-- R34, R35: zero words for a fill sealed SHUT, and the old audio, keep the generator; SHUT and a gap reset the feedback,
an insertion that follows keeps it where nothing is requantized. -/
theorem test_encode_content :
    let run := fun (last : Nat) (r : Segment) => after (fun d => (d.encoder.errorLeft, d.encoder.errorRight,
      d.encoder.generator)) .encodeStart (encodedLast last (putSegment r unit))
    run 3 (encodable none .shut) = some (0, 0, unit.encoder.generator) ∧
    run 3 (encodable (some (List.replicate 480 (goodOld 1000))) .opened) = some (7, 9, unit.encoder.generator) ∧
    run 2 (encodable (some (List.replicate 480 (goodOld 1000))) .opened) = some (0, 0, unit.encoder.generator) := by
  decide +kernel
theorem test_tape_words : (tapeWords .round 16 { left := 0, right := 0, generator := 0 }
    [({ left := 200, right := 100 }, true), ({ left := 300, right := BitVec.ofInt 24 (-1) }, false)]).1 =
    [{ left := 256, right := 0 }, { left := 256, right := BitVec.ofInt 24 (-256) }] := by decide +kernel
theorem test_encode_passed :
    after toldEntry .encodeCompletion (encodingJob 3 (some 3) (encodingLinked false)) = some (some (some .broken, none)) ∧
    after toldEntry .encodeCompletion (encodingJob 3 (some 3) (encodingLinked true)) = some (some (some .done, none)) ∧
    after (fun d => (held 3 d, d.events.details.getD 15 none)) .encodeCompletion
      (encodingJob 3 (some 3) (encodingLinked true)) = some (none, none) := by decide +kernel
theorem test_encode_completion : after (fun d => (heldIn .encoded 3 d).bind Segment.stripes) .encodeCompletion
      (encodingJob 3 (some 2) (withSegment 3 .encoding unit)) = some (some someStripes) ∧
    after (fun d => held 3 d) .encodeCompletion (encodingJob 3 (some 3) (withSegment 3 .encoding unit)) = some none := by
  decide +kernel

/-! ### Sends and messages -/

def sending (q : List Queued) (quiet : Nat) (d : Device) : Device :=
  { d with link := { d.link with queue := q, quiet := quiet } }
def onLink (m : Queued) : Queued := { m with sent := some 38 }
theorem test_nothing_waits : nothingWaits linked ∧
    nothingWaits (sending [onLink (aMessage .localClaim)] 0 linked) :=
  ⟨nothingWaits_check (by decide), nothingWaits_check (by decide)⟩
theorem test_witness_SendsStartAndComplete : linked.link.receiver = .idle ∧ (aMessage .localClaim).sent = none ∧
    (sending [aMessage .localClaim] 8 linked).link.quiet = 8 + linked.link.yieldCount ∧
    (onLink (aMessage .localClaim)).sent ≠ none ∧ (∀ p, (onLink (aMessage .localClaim)).origin ≠ .report p) ∧
    (onLink (aMessage (.report 0))).origin = .report 0 ∧
    nothingWaits (sending [onLink (aMessage (.report 0))] 0 linked) :=
  ⟨rfl, rfl, rfl, by decide, (by intro p h; cases h), rfl, nothingWaits_check (by decide)⟩
theorem test_send_start : after (fun d => d.link.queue.map Queued.sent) .sendStart (sending [aMessage .localClaim] 8 linked) =
      some [some 0] ∧
    after (fun d => d.link.queue.map Queued.sent) .sendStart (sending [aMessage .localClaim] 7 linked) = some [none] := by
  decide +kernel
theorem test_send_completion : after (fun d => (d.link.queue, d.link.yieldCount)) .sendCompletion
    (sending [onLink (aMessage .localClaim)] 0 linked) = some ([], 3) := by decide +kernel
theorem test_receives : receivesMessage linked := ⟨rfl, by decide, by decide⟩
theorem test_witness_ClaimMessageTakesFreeSlot : receivesMessage linked ∧ tablesShaped linked ∧
    (message 5 [11]).body = [BitVec.ofNat 8 11] ∧ (slotEntry 11 linked).owner = none ∧
    (message 2 [11]).source = (cfg linked).station ∧ (message 5 [11]).source ≠ (cfg linked).station ∧
    (slotEntry 11 linked).ownClaim = false ∧
    slotEntry 11 (withSlot 11 { SlotEntry.free with ownClaim := true } linked) =
      { SlotEntry.free with ownClaim := true } ∧ (slotEntry 0 (withSlot 0 (ownedBy 5) linked)).owner = some 5 ∧
    receivesMessage (withSlot 0 (ownedBy 5) linked) :=
  ⟨test_receives, linked_shaped.2, by decide, by decide, by decide, by decide, by decide, by decide, by decide,
    ⟨rfl, by decide, by decide⟩⟩
theorem test_claim_message : after (fun d => ((slotEntry 11 d).owner, (slotEntry 11 d).drive)) (.slotClaimMessage (message 2 [11]))
      linked = some (some 2, some .driving) ∧
    after (fun d => (slotEntry 11 d).owner) (.slotClaimMessage (message 5 [11])) linked = some (some 5) := by
  decide +kernel
theorem test_witness_ReleaseMessageFreesSlot :
    let d := chasing .locked (withSlot 3 (ownedBy 5) linked)
    receivesMessage d ∧ tablesShaped d ∧ (slotEntry 3 d).owner = some (message 5 [3]).source ∧ d.chase.leadSlot = some 3 ∧
    chaseRunning d.chase = true ∧ (slotEntry 3 linked).owner ≠ some 5 ∧ linked.chase.leadSlot ≠ some 3 :=
  ⟨⟨rfl, by decide, by decide⟩, by unfold tablesShaped; decide, by decide, by decide, by decide, by decide, by decide⟩
theorem test_release_message : after (fun d => ((slotEntry 3 d).owner, d.chase.state)) (.slotReleaseMessage (message 5 [3]))
    (chasing .locked (withSlot 3 (ownedBy 5) linked)) = some (none, .holdover) := by decide +kernel

/-- Station 0 and station 2 are in the authority set 05h. -/
theorem test_witness_EditAndChaseMessagesNeedAuthority : shaped linked ∧ receivesMessage linked ∧
    isAddressed (message 0 aPost) linked ∧ (cfg linked).authority.getLsbD (message 0 aPost).source = true ∧
    isAddressed { message 0 aPost with destination := 2 } linked ∧
    isAddressed { message 0 aPost with destination := 64 } linked ∧
    ¬ isAddressed { message 0 aPost with destination := 65 } linked ∧
    (cfg linked).authority.getLsbD (message 1 aPost).source = false ∧ (postFields aPost).tag = 7 ∧
    placeOf (.station 0) 7 linked = none ∧ entryAt linked.edit.head linked = none ∧
    placeOf (.station 0) 7 (withEntry 3 (anEntry .pending (.station 0)) linked) = some 3 ∧
    shaped (withEntry 3 (anEntry .pending (.station 0)) linked) ∧ (message 0 [11, 0, 0, 0, 0, 0]).body.length = 6 ∧
    (slotEntry 11 linked).owner ≠ some (cfg linked).station := by
  refine ⟨linked_shaped, test_receives, ?_, ?_, ?_, ?_, ?_, ?_, ?_, ?_, ?_, ?_,
    ⟨ringPlaced_check (by decide), by unfold tablesShaped; decide +kernel⟩, ?_⟩ <;>
  first | decide +kernel | (unfold isAddressed; decide +kernel)
theorem test_edit_messages : after (fun d => (entryAt 0 d).map Entry.report) (.editPostMessage (message 0 aPost)) linked =
      some (some .notDue) ∧
    after (fun d => d.events.details.getD 6 none) (.editPostMessage (message 1 aPost)) linked =
      some (some (.foreignRequest 9 1)) ∧
    after (fun d => (entryAt 3 d).map Entry.status) (.editCancelMessage (message 0 [7]))
      (withEntry 3 (anEntry .pending (.station 0)) linked) = some (some (some .cancelled)) := by decide +kernel
theorem test_witness_EditAndChaseMessages_refused :
    let d := withEntry 0 (anEntry .pending (.station 0)) linked
    ¬ postInRange [7, 0, 1, 0, 0, 0, 100, 1, 224] ∧ postInRange aPost ∧ placeOf (.station 0) 7 d ≠ none ∧
    placeOf (.station 3) 7 d = none ∧ entryAt d.edit.head d ≠ none ∧ d.link.queue.length < 8 ∧
    8 ≤ (fullQueue d).link.queue.length := by
  unfold postInRange
  decide +kernel
theorem test_refused_post :
    let last := fun (d : Device) => d.link.queue.getLast?.map (fun m => (m.kind, m.destination, m.body.take 2))
    after last (.editPostMessage (message 0 aPost)) (withEntry 0 (anEntry .pending (.station 0)) linked) =
      some (some (10, 0, [7, 17])) ∧
    after last (.editPostMessage (message 0 [7, 0, 1, 0, 0, 0, 100, 1, 224])) linked = some (some (10, 0, [7, 16])) ∧
    after (fun d => d.link.queue.length) (.editPostMessage (message 0 aPost))
      (fullQueue (withEntry 0 (anEntry .pending (.station 0)) linked)) = some 8 := by decide +kernel
theorem test_chase_message : after (fun d => d.chase.leadSlot) (.chaseSetMessage (message 2 [11, 0, 0, 0, 0, 0])) linked =
    some (some 11) := by decide +kernel
theorem test_witness_UnactedAndBadMessages : (Instr.messageOfUnknownKind 31 (message 0 [])).wellFormed = true ∧
    (message 0 (octetsOf 10)).body.length = 10 ∧ 11 < octetAt 0 (message 0 [12]).body := by decide
theorem test_bad_message : after (fun d => d.link.bad) .badMessage { linked with link := { linked.link with bad := 255 } } =
      some 255 ∧
    after (fun d => d.link.bad) (.slotClaimMessage (message 0 [12])) linked = some 1 := by decide +kernel

def aWord (owner : Nat) : BitVec 64 :=
  makeWord { position := { segment := 16777215, offset := 479 }, copy := .openCopy, owner := owner, motion := .playing }
theorem test_words : validWord (aWord 2) = true ∧ validWord (aWord 5) = true ∧ validWord (aWord 5 + 1) = false ∧
    (readWord (aWord 5)).owner = 5 := by decide +kernel
theorem test_witness_StatusWordsTeachTheTable : linked.link.attachment = .attached ∧ linked.chase.leadSlot ≠ some 11 ∧
    (slotEntry 11 linked).owner = none ∧ (slotEntry 11 linked).ownClaim = false ∧
    (readWord (aWord 2)).owner = (cfg linked).station ∧ (readWord (aWord 5)).owner ≠ (cfg linked).station ∧
    (slotEntry 11 (withSlot 11 (ownedBy 5) linked)).owner = some (readWord (aWord 5)).owner ∧
    (slotEntry 11 (withSlot 11 (ownedBy 4) linked)).owner = some 4 ∧
    (slotEntry 11 (withSlot 11 (ownedBy 2) linked)).owner = some (cfg linked).station ∧
    11 < (withSlot 11 (ownedBy 2) linked).table.length ∧ 3 < linked.events.details.length ∧
    (chasing .off linked).chase.leadSlot = some 3 ∧ (chasing .off linked).chase.state = .off ∧
    slotEntry 11 (withSlot 11 { SlotEntry.free with ownClaim := true } linked) =
      { SlotEntry.free with ownClaim := true } ∧
    validWord (aWord 5 + 1) = false ∧
    (slotEntry 11 (withSlot 11 { ownedBy 2 with drive := some .driving, invalidRun := 3 } linked)).invalidRun + 1 = 4 ∧
    (slotEntry 11 (withSlot 11 { ownedBy 2 with drive := some .driving, invalidRun := 2 } linked)).invalidRun + 1 < 4 := by
  decide +kernel
theorem test_status_word : after (fun d => (slotEntry 11 d).owner) (.statusWordCompletion 11 (aWord 5)) linked =
      some (some 5) ∧
    after (fun d => (slotEntry 11 d).copy) (.statusWordCompletion 11 (aWord 5 + 1))
      (withSlot 11 { ownedBy 5 with invalidRun := 1 } linked) = some (some .unknown) ∧
    after (fun d => ((slotEntry 11 d).copy, (slotEntry 11 d).invalidRun)) (.statusWordCompletion 11 (aWord 2))
      (withSlot 11 { ownedBy 5 with copy := some .unknown, invalidRun := 2 } linked) = some (some .openCopy, 2) ∧
    after (fun d => (slotEntry 11 d).drive) (.statusWordCompletion 11 (aWord 5 + 1))
      (withSlot 11 { ownedBy 2 with drive := some .driving, invalidRun := 3 } linked) = some (some .stopped) := by
  decide +kernel
/-- A chase on slot 3 whose own latch lies `m` samples behind the word of `aWord`. -/
def leading (st : ChaseState) (run m : Nat) : Device :=
  let d := chasing st linked
  { d with chase := { d.chase with trim := 0, ownLatch := some (16777215 * 480 + 479 - m), lockRun := run
                                   leadOwner := some 5 } }
theorem test_witness_LeadWordsUpdateTheChase : linked.link.attachment = .attached ∧ tablesShaped (leading .locked 8 17) ∧
    (leading .locked 8 17).chase.leadSlot = some 3 ∧ (leading .locked 8 17).chase.state ≠ .off ∧
    (leading .holdover 0 4).chase.ownLatch = some 8053063675 ∧ validWord (aWord 5) = true ∧
    (readWord (aWord 5)).owner ≠ (cfg linked).station ∧
    chaseTable .locked false 8 17 = (.catching, some .slip, 0) ∧
    chaseTable .waiting false 0 4801 = (.seeking, some .far, 0) ∧
    chaseTable .catching false 7 4 = (.locked, some .locked, 8) ∧
    chaseTable .holdover false 0 4 = (.catching, some .return_, 1) :=
  ⟨rfl, by unfold tablesShaped; decide +kernel, by decide, by decide, by decide, by decide +kernel, by decide +kernel,
    by decide, by decide, by decide, by decide⟩
theorem test_lead_words : after (fun d => (d.chase.state, d.chase.error, d.chase.correction))
      (.statusWordCompletion 3 (aWord 5)) (leading .locked 8 17) = some (.catching, some 17, 2) ∧
    after (fun d => (d.chase.state, d.chase.lockRun)) (.statusWordCompletion 3 (aWord 5)) (leading .catching 7 4) =
      some (.locked, 8) ∧
    after (fun d => (d.chase.state, d.chase.wind, d.chase.wordGap)) (.statusWordCompletion 3 (aWord 5))
      (leading .seeking 0 4801) = some (.seeking, .windFwd, 0) := by decide +kernel


/-! ### Playouts and the sealing -/

theorem test_witness_PrefillEntersAndStarts :
    let d := playAt .prefill 0 0 (withSegment 7 .decoded (moving .play))
    (moving .play).ring.play.state = .stopped ∧ (moving .play).port.motion = .playing ∧
    (moving .play).port.mode ≠ .record ∧ (moving .play).ring.play.ended = false ∧ unit.port.motion ≠ .playing ∧
    d.ring.play.state = .prefill ∧ ringPlaced d ∧ noneIn [.decoded] (playAt .prefill 0 0 (moving .play)) ∧
    (heldIn .decoded 7 d).isSome = true ∧ (∀ m, (heldIn .decoded m d).isSome = true → 7 ≤ m) ∧
    1 ≤ (cfg d).prefill ∧ (∀ k, k < (cfg d).prefill → (heldIn .decoded (7 + k) d).isSome = true) :=
  ⟨rfl, rfl, by decide, rfl, by decide, rfl, ringPlaced_check (by decide), noneIn_check (by decide), by decide,
    lowest_check (by decide), by decide, by decide⟩
theorem test_prefill : after (fun d => d.ring.play.state) .prefillEntry (moving .play) = some .prefill ∧
    after (fun d => d.ring.play.state) .prefillEntry unit = some .stopped := by decide +kernel
theorem test_play_start : after (fun d => (d.ring.play.state, (heldIn .playout 7 d).isSome)) .playPlayoutStart
    (playAt .prefill 0 0 (withSegment 7 .decoded (moving .play))) = some (.running, true) := by decide +kernel
/-- A deck in PREFILL that waits for two segments, with segment 7 DECODED and `m` in a state. -/
def prefilling (m : Nat) (st : SlotState) : Device :=
  let d := playAt .prefill 0 0 (withSegment m st (withSegment 7 .decoded (moving .play)))
  { d with config := some { configFor .off with prefill := 2 } }
theorem test_witness_PrefillEntersAndStarts_stale :
    let d := prefilling 9 .decoded
    ringPlaced d ∧ d.ring.play.state = .prefill ∧ (heldIn .decoded 7 d).map Segment.editLink = some none ∧
    (∀ m, (heldIn .decoded m d).isSome = true → 7 ≤ m) ∧ 1 < (cfg d).prefill ∧ heldIn .decoded (7 + 1) d = none ∧
    heldIn .gather (7 + 1) d = none ∧ (heldIn .decoded 9 d).isSome = true ∧
    (heldIn .gather (7 + 1) (prefilling 8 .gather)).isSome = true ∧
    heldIn .decoded (7 + 1) (prefilling 7 .decoded) = none :=
  ⟨ringPlaced_check (by decide), rfl, by decide, lowest_check (by decide), by decide, by decide, by decide, by decide,
    by decide, by decide⟩
theorem test_prefill_stale :
    let slot := fun (d : Device) => after (fun d => (slotOf 7 d).isSome) .playPlayoutStart d
    slot (prefilling 9 .decoded) = some false ∧ slot (prefilling 8 .gather) = some true ∧
    slot (prefilling 8 .verify) = some true := by decide +kernel
theorem test_witness_PlaySegmentEndMovesOn :
    let d := playAt .running 16777214 480 (withSegment 16777214 .playout (moving .play))
    shaped d ∧ unit.ring.play.state ≠ .running ∧ d.ring.play.state = .running ∧
    d.ring.play.position = { segment := 16777214, offset := 480 } ∧ d.port.mode = .play ∧ 16777214 < lastSegment ∧
    (heldIn .playout 16777214 d).isSome = true ∧ slotOf 16777215 d = none ∧
    (heldIn .decoded 16777215 (withSegment 16777215 .decoded d)).isSome = true ∧
    (heldIn .gather 16777215 (withSegment 16777215 .gather d)).isSome = true ∧
    slotOf 16777215 (withSegment 16777199 .decoded d) ≠ none ∧
    heldIn .decoded 16777215 (withSegment 16777199 .decoded d) = none ∧
    heldIn .gather 16777215 (withSegment 16777199 .decoded d) = none ∧
    (playAt .running 16777215 480 (moving .insert)).edit.touch.marks = [] ∧
    (inserting .full (moving .insert)).edit.insertion = some 5 ∧
    (inserting .full (moving .insert)).edit.touch.marks = [] :=
  ⟨⟨ringPlaced_check (by decide), by unfold tablesShaped; decide +kernel⟩, by decide +kernel⟩
theorem test_play_end : after (fun d => (d.ring.play.position.segment, (heldIn .playout 8 d).map Segment.late))
    .playSegmentEnd (playAt .running 7 480 (withSegment 8 .gather (withSegment 7 .playout (moving .play)))) =
    some (8, some true) := by decide +kernel
theorem test_play_blocked : after (fun d => (slotOf 101 d, d.edit.insertion, (entryAt 5 d).bind Entry.status)) .playSegmentEnd
      (withSegment 85 .decoded (running 480 (inserting .full (moving .insert)))) = some (none, none, some .broken) ∧
    after (fun d => (d.ring.play.state, d.ring.play.ended)) .playSegmentEnd
      (playAt .running 16777215 480 (withSegment 16777215 .playout (moving .insert))) = some (.stopped, true) ∧
    after (fun d => d.decoder.queue.map QueuedStripe.lateSeen) .playSegmentEnd
      (decoding [aQueued .advance 101 .a, aQueued .advance 102 .a] true
        (withSegment 101 .gather (running 480 (moving .play)))) = some [true, false] := by decide +kernel
/-- Segment 100 at its end with the feed's status latched, touched by the insertion of place 5 at a gain. -/
def touchedBy (feed : CopyStatus) (gain : Nat) (horizon : Option Nat) : Device :=
  let d := running 480 (inserting .full (moving .insert))
  let e := putSegment { sounding 100 .playout with
    gains := some (List.replicate 480 gain), new := some (List.replicate 480 (some silentPair)), gate := some feed
    subcode := some (aSubcode 100), valid := true } d
  { e with
    edit := { e.edit with touch := { insertion := some 5, marks := [], spoiled := false } }
    encoder := { e.encoder with horizon := horizon } }
theorem test_witness_InsertSegmentEndSeals :
    let d := touchedBy .openCopy 256 none
    shaped d ∧ d.ring.play.state = .running ∧ d.ring.play.position = { segment := 100, offset := 480 } ∧
    d.port.mode = .insert ∧ (heldIn .playout 100 d).map (fun r => (r.gains.isSome, r.writeLate)) = some (true, false) ∧
    d.edit.touch.spoiled = false ∧ d.edit.touch.marks = [] ∧ d.edit.touch.insertion = some 5 ∧
    (entryAt 5 d).map (fun e => (e.state, e.result.isSome)) = some (.inserting, true) ∧ d.edit.insertion = some 5 ∧
    (heldIn .playout 100 (touchedBy .spent 256 none)).bind Segment.gate = some .spent ∧
    (touchedBy .openCopy 256 (some 100)).encoder.horizon = some 100 ∧
    (touchedBy .openCopy 256 (some 99)).encoder.horizon = some 99 ∧ slotOf 101 d = none :=
  ⟨⟨ringPlaced_check (by decide +kernel), by unfold tablesShaped; decide +kernel⟩, by decide +kernel⟩
/-- The touched segment of `touchedBy`, at the last segment number. -/
def touchedLast (feed : CopyStatus) : Device :=
  let d := touchedBy feed 256 none
  match held 100 d with
  | some r => putSegment { r with number := lastSegment } (playAt .running lastSegment 480 (clearSlot 100 d))
  | none => d
theorem test_witness_InsertSegmentEndSeals_last :
    let d := touchedLast .openCopy
    shaped d ∧ d.ring.play.state = .running ∧ d.ring.play.position = { segment := lastSegment, offset := 480 } ∧
    d.port.mode = .insert ∧ (heldIn .playout lastSegment d).map (fun r => (r.gains.isSome, r.writeLate)) =
      some (true, false) ∧ d.edit.touch.insertion = some 5 ∧ d.edit.insertion = some 5 :=
  ⟨⟨ringPlaced_check (by decide +kernel), by unfold tablesShaped; decide +kernel⟩, by decide +kernel⟩
theorem test_insert_seals_last : after (fun d => (d.ring.play.state, d.ring.play.ended,
    (held lastSegment d).map Segment.state)) .playSegmentEnd (touchedLast .openCopy) =
    some (.stopped, true, some .encoding) := by decide +kernel
/-- Segment 100 at its end with two MARKs of places 6 and 7 on it, no insertion, and a VALID subcode or none. -/
def markedBy (x : Option Subcode) : Device :=
  let d := running 480 (moving .insert)
  let e := putSegment { sounding 100 .playout with subcode := x, valid := x.isSome, indexRequest := true } d
  let m := fun (tag : Byte) => { anEntry .verifying .localPort with
    post := { (anEntry .verifying .localPort).post with tag := tag, action := .mark } }
  let f := withEntry 7 (m 8) (withEntry 6 (m 7) e)
  { f with edit := { f.edit with touch := { insertion := none, marks := [6, 7], spoiled := false } } }
/-- The touched segment of `touchedBy` under an UNKNOWN old status, which a gain below 256 keeps. -/
def touchedUnknown : Device :=
  let d := touchedBy .openCopy 128 none
  match held 100 d with
  | some r => putSegment { r with subcode := some { aSubcode 100 with copy := .unknown } } d
  | none => d
theorem test_witness_InsertSegmentEndSeals_marks :
    (∀ x ∈ [some (aSubcode 100), none], let d := markedBy x
      ringPlaced d ∧ d.ring.play.state = .running ∧ d.ring.play.position = { segment := 100, offset := 480 } ∧
      d.port.mode = .insert ∧ (heldIn .playout 100 d).map (fun r => (r.gains, r.gate, r.subcode, r.writeLate)) =
        some (none, none, x, false) ∧ d.edit.touch.marks.Nodup ∧ d.edit.touch.insertion = none ∧
      ∀ m ∈ d.edit.touch.marks, (entryAt m d).map (fun e => (e.state, e.result.isSome)) = some (.verifying, true) ∧
        d.edit.insertion ≠ some m) ∧
    tablesShaped (markedBy none) ∧ tablesShaped (markedBy (some (aSubcode 100))) ∧
    (heldIn .playout 100 touchedUnknown).map (fun r => (r.gate, r.subcode.map Subcode.copy, r.gains.map (·.any (· < 256)))) =
      some (some .openCopy, some .unknown, some true) ∧ shaped touchedUnknown ∧ touchedUnknown.edit.insertion = some 5 := by
  refine ⟨fun x hx => ?_, by unfold tablesShaped; decide +kernel, by unfold tablesShaped; decide +kernel, by decide +kernel,
    ⟨ringPlaced_check (by decide +kernel), by unfold tablesShaped; decide +kernel⟩, by decide +kernel⟩
  simp only [List.mem_cons, List.not_mem_nil, or_false] at hx
  rcases hx with rfl | rfl <;> exact ⟨ringPlaced_check (by decide +kernel), by decide +kernel⟩
theorem test_witness_InsertSegmentEndSeals_late :
    let d := touchedBy .openCopy 256 (some 100)
    let x := withEntry 6 { anEntry .pending .localPort with
      post := { (anEntry .pending .localPort).post with tag := 8, action := .punchOut } }
      (withEntry 5 { anEntry .inserting .localPort with
        post := { (anEntry .inserting .localPort).post with chained := true } } d)
    slotOf 101 d = none ∧ (∀ y ∈ records d, y.editLink = some 5 → y.number ≤ 100) ∧ isChain 5 6 x ∧
    d.encoder.inFlight = none :=
  ⟨by decide +kernel, by decide +kernel, isChain_next rfl (by decide) rfl rfl (by decide), rfl⟩
theorem test_insert_seals_marks :
    let statuses := fun (d : Device) => after (fun d => ((held 100 d).bind Segment.editLink,
      [6, 7].map (fun p => (entryAt p d).bind Entry.status))) .playSegmentEnd d
    statuses (markedBy (some (aSubcode 100))) = some (some 6, [none, some .done]) ∧
    statuses (markedBy none) = some (none, [some .refusedCopy, some .refusedCopy]) ∧
    after (fun d => d.events.details.getD 10 none) .playSegmentEnd touchedUnknown =
      some (some (.copyRefused 100 .insert .oldUnknown)) := by decide +kernel
theorem test_insert_seals : after (fun d => ((held 100 d).map (fun r => (r.state, r.editLink)),
      ((entryAt 5 d).bind Entry.result).map EditResult.inFlight)) .playSegmentEnd (touchedBy .openCopy 256 (some 99)) =
      some (some (.encoding, some 5), some 1) ∧
    after (fun d => ((slotOf 100 d).isNone, (entryAt 5 d).bind Entry.status, d.gate.lastDecision)) .playSegmentEnd
      (touchedBy .spent 256 none) = some (true, some .refusedCopy, .shut) := by decide +kernel
theorem test_insert_seals_late : after (fun d => ((held 100 d).map Segment.writeLate, d.edit.insertion,
    (entryAt 5 d).bind Entry.outcome)) .playSegmentEnd (touchedBy .openCopy 256 (some 100)) =
    some (some true, none, some .broken) := by decide +kernel
theorem test_witness_ConfidencePlayoutTakesLowestChecked :
    let d := withSegment 6 .checked unit
    let e := confAt 5 480 (withSegment 5 .confOut d)
    ringPlaced d ∧ ringPlaced e ∧ noneIn [.checked] unit ∧ d.ring.conf.running = false ∧
    (heldIn .checked 6 d).isSome = true ∧ (∀ m, (heldIn .checked m d).isSome = true → 6 ≤ m) ∧
    e.ring.conf = { running := true, position := { segment := 5, offset := 480 } } ∧
    (heldIn .confOut 5 e).isSome = true ∧ (heldIn .checked 6 e).isSome = true ∧
    (∀ m, (heldIn .checked m e).isSome = true → 6 ≤ m) :=
  ⟨ringPlaced_check (by decide), ringPlaced_check (by decide), noneIn_check (by decide), rfl, by decide,
    lowest_check (by decide), rfl, by decide, by decide, lowest_check (by decide)⟩
theorem test_confidence_end : after (fun d => (d.ring.conf.position.segment, slotOf 5 d)) .confidenceSegmentEnd
    (confAt 5 480 (withSegment 5 .confOut (withSegment 6 .checked unit))) = some (6, none) := by decide +kernel
/-- The end of segment 5, linked to the entry of place 5 with a number of segments in flight. -/
def readBack (inFlight : Nat) : Device :=
  confAt 5 480 (putSegment { freshSegment 5 .confOut with editLink := some 5 }
    (withEntry 5 { anEntry .verifying .localPort with
      outcome := some .done
      result := some { first := some 5, last := some 5, inFlight := inFlight, tally := 0, weak := false
                       unverified := false, edgeConcealed := false, lockLost := false } } unit))
theorem test_witness_ConfidencePlayoutTakesLowestChecked_linked :
    tablesShaped (readBack 1) ∧ (heldIn .confOut 5 (readBack 1)).bind Segment.editLink = some 5 ∧
    (entryAt 5 (readBack 1)).map Entry.state = some .verifying ∧
    ((entryAt 5 (readBack 1)).bind Entry.result).map EditResult.inFlight = some 1 ∧
    ((entryAt 5 (readBack 2)).bind Entry.result).map EditResult.inFlight = some 2 ∧
    (readBack 1).edit.touch = Touch.empty ∧ (readBack 1).edit.insertion = none :=
  ⟨by unfold tablesShaped; decide +kernel, by decide +kernel⟩
theorem test_confidence_retires :
    let run := fun (d : Device) => after (fun d => (entryAt 5 d).map (fun e => (e.state, e.status))) .confidenceSegmentEnd d
    run (readBack 1) = some (some (.retired, some .done)) ∧ run (readBack 2) = some (some (.verifying, none)) := by
  decide +kernel
theorem test_confidence_start : after (fun d => d.ring.conf.running) .confidencePlayoutStart (withSegment 6 .checked unit) =
    some true := by decide +kernel
def filled (n : Nat) (st : CopyStatus) : Device :=
  putSegment { freshSegment n .fill with new := some (List.replicate 480 (some silentPair)), gate := some st }
    (recordingAt .filling (some { segment := n, offset := 480 }) (moving .record))
theorem test_witness_RecordSealingDecidesAndEncodes : ringPlaced (filled 4 .spent) ∧
    (filled 4 .spent).recorder.state = .filling ∧
    (filled 4 .spent).recorder.fill = some { segment := 4, offset := 480 } ∧
    (heldIn .fill 4 (filled 4 .spent)).bind Segment.gate = some .spent ∧
    (heldIn .fill 4 (filled 4 .unknown)).bind Segment.gate = some .unknown ∧
    (heldIn .fill 4 (filled 4 .counted1)).bind Segment.gate = some .counted1 ∧
    (encodingJob 3 none (filled 4 .spent)).encoder.inFlight ≠ none :=
  ⟨ringPlaced_check (by decide), by decide +kernel⟩
theorem test_witness_RecordSealing_last : shaped (filled lastSegment .openCopy) ∧
    (filled lastSegment .openCopy).recorder.fill = some { segment := lastSegment, offset := 480 } ∧
    (heldIn .fill lastSegment (filled lastSegment .openCopy)).isSome = true :=
  ⟨⟨ringPlaced_check (by decide +kernel), by unfold tablesShaped; decide +kernel⟩, rfl, by decide +kernel⟩
/-- The fill of `filled` after a sealing of a decision. -/
def decidedBefore (x : Decision) (d : Device) : Device := { d with gate := { d.gate with lastDecision := x } }
theorem test_witness_RecordSealing_decisions :
    tablesShaped (filled 4 .spent) ∧ (filled 4 .spent).gate.lastDecision ≠ .shut ∧
    (decidedBefore .shut (filled 4 .counted1)).gate.lastDecision ≠ .opened ∧
    (decidedBefore .shut (filled 4 .unknown)).gate.lastDecision = .shut ∧
    (filled 4 .counted1).gate.lastDecision = .opened ∧ (filled 4 .spent).encoder.inFlight = none :=
  ⟨by unfold tablesShaped; decide +kernel, by decide +kernel⟩
theorem test_record_sealing_events :
    let run := fun (d : Device) => after (fun d => (d.events.details.getD 10 none, d.events.details.getD 9 none)) .recordSealing d
    run (filled 4 .spent) = some (some (.copyRefused 4 .record .feedSpent), some (.gateChange .shut 4 .record)) ∧
    run (decidedBefore .shut (filled 4 .counted1)) = some (none, some (.gateChange .opened 4 .record)) ∧
    run (decidedBefore .shut (filled 4 .unknown)) = some (some (.copyRefused 4 .record .feedUnknown), none) := by
  decide +kernel
theorem test_record_sealing_last : after (fun d => (d.port.mode, d.recorder.state, d.events.details.getD 17 none))
    .recordSealing (filled lastSegment .openCopy) =
    some (.play, .idle, some (.modeChange .play .numberLimit)) := by decide +kernel
theorem test_record_sealing : after (fun d => (d.gate.lastDecision, d.recorder.fill)) .recordSealing (filled 4 .spent) =
      some (.shut, some { segment := 5, offset := 0 }) ∧
    after (fun d => d.gate.lastDecision) .recordSealing (filled 4 .counted1) = some .opened := by decide +kernel

/-! ### Contexts and insertions -/

def contextAs (x : Context) : Device := putContext ⟨.play, .left⟩ x unit
def aContext (st : ContextState) (hold recovery step : Nat) : Context :=
  { Context.start with state := st, holdRun := hold, recoveryRun := recovery, fadeStep := step, fadeStart := some 0
                       last := some { segment := 5, offset := 0 } }
theorem test_witness_ContextsChangeAtTheirEnds :
    (contextOf ⟨.play, .left⟩ (contextAs (aContext .holding 33 0 0))).state = .holding ∧ (cfg unit).holdLimit < 33 ∧
    (contextOf ⟨.play, .left⟩ (contextAs (aContext .fadingOut 0 0 64))).fadeStep = 64 ∧
    (contextOf ⟨.play, .left⟩ (contextAs (aContext .fadingOut 0 0 64))).last = some { segment := 5, offset := 0 } ∧
    12 < unit.events.details.length ∧
    (contextOf ⟨.play, .left⟩ (contextAs (aContext .muted 0 16 0))).recoveryRun = (cfg unit).recoveryCount ∧
    (contextOf ⟨.play, .left⟩ (contextAs (aContext .fadingIn 0 0 64))).state = .fadingIn := by decide +kernel
theorem test_hold_and_mute : after (fun d => d.conceal.playLeft.state) (.holdLimitPassed ⟨.play, .left⟩)
      (contextAs (aContext .holding 33 0 0)) = some .fadingOut ∧
    after (fun d => (d.conceal.playLeft.state, d.counters.play.mutes)) (.mute ⟨.play, .left⟩)
      (contextAs (aContext .fadingOut 0 0 64)) = some (.muted, 1) := by decide +kernel
theorem test_recovery_and_fade_in : after (fun d => d.conceal.playLeft.state) (.recoveryComplete ⟨.play, .left⟩)
      (contextAs (aContext .muted 0 16 0)) = some .fadingIn ∧
    after (fun d => d.conceal.playLeft.state) (.fadeInComplete ⟨.play, .left⟩)
      (contextAs (aContext .fadingIn 0 0 64)) = some .clean := by decide +kernel
theorem test_witness_InsertFadesEnd :
    let d := inserting .fadeOut (moving .insert)
    tablesShaped d ∧ d.edit.fade.map (fun f => (f.length, f.step)) = some (32, 32) ∧ d.edit.phase = some .fadeOut ∧
    d.edit.insertion = some 5 ∧ (entryAt 5 d).map Entry.state = some .inserting ∧
    (inserting .fadeIn (moving .insert)).edit.phase = some .fadeIn ∧
    (let o : Entry := { anEntry .pending .localPort with
        fired := true, outcome := some .done
        post := { (anEntry .pending .localPort).post with tag := 8, action := .punchOut } }
     firedOut (withEntry 6 o d) = some 6 ∧ entryAt 6 (withEntry 6 o d) = some o) :=
  ⟨by unfold tablesShaped; decide +kernel, by decide +kernel⟩
theorem test_fades_end : after (fun d => (d.edit.phase, d.edit.fade)) .insertFadeInEnd (inserting .fadeIn (moving .insert)) =
      some (some .full, none) ∧
    after (fun d => (d.edit.insertion, (entryAt 5 d).map Entry.state)) .insertFadeOutEnd
      (inserting .fadeOut (moving .insert)) = some (none, some .retired) := by decide +kernel

/-! ### The link's counts -/

def listening (wait : Nat) : Device := linkedAs { linked.link with attachment := .listen, listenWait := wait }
def aligning (count : Nat) : Device := linkedAs { linked.link with attachment := .align, alignCount := count }
/-- A station at frame 5 of its multiframe, with or without a misplaced marker in the one before. -/
def misplaced (before : Bool) : Device := linkedAs { linked.link with frameCount := 5, misplacedPrevious := before }
theorem test_witness_AttachmentFollowsMarkers :
    (0 < linked.events.details.length ∧ 128 + 16 * (cfg linked).station = 160 ∧
      (listening 160).link.attachment = .listen ∧ (listening 160).link.listenWait = 160 ∧
      (listening 159).link.listenWait = 159 ∧ (aligning 63).link.attachment = .align ∧
      (aligning 63).link.alignCount = 63 ∧ (aligning 62).link.alignCount < 63) ∧
    ((∀ l, deckRests (linkedAs l)) ∧ (cfg (listening 0)).linkMode = .normal ∧ (misplaced true).link.attachment = .attached ∧
      (misplaced true).link.queue = [] ∧ (misplaced false).link.frameCount ≠ 0 ∧
      (markedPeriod true false).frame.marker = true ∧ (markedPeriod true false).frame.message = false) :=
  ⟨by decide, linkedAs_rests, rfl, rfl, rfl, by decide, rfl, rfl⟩
theorem test_markers :
    let run := fun (m : Bool) (d : Device) =>
      after (fun d => (d.link.attachment, d.link.frameCount)) (.wordReferencePeriod (markedPeriod m false)) d
    run false (listening 159) = some (.listen, 0) ∧ run true (listening 159) = some (.align, 0) ∧
    run true (listening 160) = some (.attached, 1) ∧ run true (aligning 62) = some (.listen, 0) ∧
    run true (aligning 63) = some (.attached, 1) ∧ run true (misplaced false) = some (.attached, 6) ∧
    (run true (misplaced true)).map Prod.fst = some .listen := by decide +kernel
theorem test_founding : after (fun d => d.link.attachment) .linkFounding (listening 160) = some .attached ∧
    after (fun d => d.link.attachment) .linkFounding (listening 159) = some .listen ∧
    after (fun d => d.link.receiver) (.alignCountEnd true) (aligning 63) = some .skip ∧
    after (fun d => d.link.attachment) (.alignCountEnd false) (aligning 63) = some .listen := by decide +kernel
def skipping (n : Nat) : Device := { linked with link := { linked.link with receiver := .skip, skipRun := n } }
def lossy (origin : MessageOrigin) : Device := sending [{ aMessage origin with losses := 16 }] 0 linked
theorem test_witness_SkipDropsAndEchoFaults : tablesShaped linked ∧ (skipping 11).link.skipRun = 11 ∧
    (skipping 11).link.receiver = .skip ∧ nothingWaits (lossy .refusalReport) ∧ nothingWaits (lossy .localClaim) ∧
    (lossy .localClaim).link.queue.map Queued.body = [[BitVec.ofNat 8 0]] ∧
    nothingWaits (lossy .localRelease) ∧ nothingWaits (lossy .owedRelease) ∧
    nothingWaits (withSlot 0 { ownedBy 2 with drive := some .stopped, ownRelease := .queued } (lossy .localRelease)) ∧
    (slotEntry 0 (withSlot 0 { ownedBy 2 with drive := some .stopped, ownRelease := .queued } linked)).owner =
      some (cfg linked).station ∧ linked.chase.leadSlot ≠ some 0 ∧
    nothingWaits (withEntry 0 { anEntry .retired (.station 0) with report := .queued } (lossy (.report 0))) ∧
    ({ linked with link := { linked.link with echoRun := 3 } } : Device).link.echoRun = 3 :=
  ⟨linked_shaped.2, rfl, rfl, nothingWaits_check (by decide), nothingWaits_check (by decide), by decide, nothingWaits_check (by decide),
    nothingWaits_check (by decide), nothingWaits_check (by decide), by decide, by decide, nothingWaits_check (by decide),
    rfl⟩
theorem test_skip_and_drop : after (fun d => d.link.receiver) .skipEnd (skipping 11) = some .idle ∧
    after (fun d => (d.link.queue, d.events.details.getD 4 none)) .messageDropped (lossy .refusalReport) =
      some ([], some (.messageDropped 2 255)) := by decide +kernel
theorem test_drops : after (fun d => ((slotEntry 0 d).owner, d.events.details.getD 1 none)) .messageDropped
      (withSlot 0 { ownedBy 2 with drive := some .stopped, ownRelease := .queued } (lossy .localRelease)) =
        some (none, some (.slotChange 0 none .releaseLost)) ∧
    after (fun d => slotEntry 0 d) .messageDropped
      (withSlot 0 { ownedBy 2 with drive := some .driving, ownRelease := .queued } (lossy .localRelease)) =
        some { ownedBy 2 with drive := some .driving } ∧
    after (fun d => entryAt 0 d) .messageDropped
      (withEntry 0 { anEntry .retired (.station 0) with report := .queued } (lossy (.report 0))) = some none := by
  decide +kernel
theorem test_echo_faults : after (fun d => (d.link.attachment, d.link.echoRun)) .echoFaults
    { linked with link := { linked.link with echoRun := 3 } } = some (.listen, 0) := by decide +kernel
theorem test_witness_DoubleDriveAndTimeout : tablesShaped linked ∧
    (slotEntry 11 (withSlot 11 { ownedBy 2 with drive := some .driving, invalidRun := 4 } linked)).owner =
      some (cfg linked).station ∧
    (slotEntry 11 (withSlot 11 { ownedBy 5 with absence := 2400 } linked)).absence = 2400 ∧
    linked.chase.leadSlot ≠ some 11 := ⟨linked_shaped.2, by decide⟩
theorem test_double_drive : after (fun d => ((slotEntry 11 d).drive, (slotEntry 11 d).ownRelease)) (.doubleDrive 11)
      (withSlot 11 { ownedBy 2 with drive := some .driving, invalidRun := 4 } linked) =
        some (some .stopped, .queued) ∧
    after (fun d => (slotEntry 11 d).owner) (.slotTimeout 11) (withSlot 11 { ownedBy 5 with absence := 2400 } linked) =
      some none := by decide +kernel
def leadGap (gap : Nat) (st : ChaseState) : Device :=
  let d := chasing st unit
  { d with chase := { d.chase with wordGap := gap, holdoverCount := 4096 } }
theorem test_witness_ChaseHoldsOverAndExpires : 14 < unit.events.details.length ∧
    chaseRunning (leadGap 512 .seeking).chase = true ∧ chaseRunning (leadGap 512 .locked).chase = true ∧
    (leadGap 512 .seeking).chase.wordGap = 512 ∧ (leadGap 512 .holdover).chase.holdoverCount = 4096 := by decide
theorem test_holdover : after (fun d => d.chase.state) .leadSilent (leadGap 512 .locked) = some .holdover ∧
    after (fun d => d.chase) .holdoverExpiry (leadGap 512 .holdover) = some Chase.initial := by decide +kernel
theorem test_witness_QueuePlaceTakesOwedReleaseFirst :
    let d := withSlot 11 { ownedBy 2 with ownRelease := .owed } linked
    let e := withEntry 3 { anEntry .retired (.station 0) with report := .waiting } linked
    unit.link.attachment ≠ .attached ∧ 8 ≤ (fullQueue linked).link.queue.length ∧ nothingWaits linked ∧
    (slotEntry 11 d).ownRelease = .owed ∧ (∀ j, j < 11 → (slotEntry j d).ownRelease ≠ .owed) ∧
    (∀ k, (slotEntry k e).ownRelease ≠ .owed) ∧ waitingReport e = some 3 ∧
    (entryAt 3 e).map Entry.poster = some (.station 0) :=
  ⟨by decide, by decide, nothingWaits_check (by decide), by decide, by decide +kernel,
    (nothingWaits_check (d := linked) (by decide)).1, by decide +kernel, by decide⟩
theorem test_queue_place : after (fun d => d.link.queue.map Queued.kind) .queuePlaceFill
      (withSlot 11 { ownedBy 2 with ownRelease := .owed } linked) = some [3] ∧
    after (fun d => d.link.queue.map Queued.kind) .queuePlaceFill
      (withEntry 3 { anEntry .retired (.station 0) with report := .waiting } linked) = some [10] := by decide +kernel

/-! ### Words and layouts -/

/-- The example of chapter 2: the sample 1000 in SHAPED mode at word length 16 after configuration with station 2. -/
theorem test_requantize_example : requantize .shaped 16 1000 0 3 = (768, -232, 2365144877) := by decide +kernel
theorem test_witness_StripeDecodesToItsSamples : (List.replicate 480 silentPair).length = 480 ∧ lostAudio.length = 480 ∧
    subcodeInRange (aSubcode 16777215) ∧ (List.replicate 480 silentPair)[479]? = some silentPair ∧
    lostAudio[479]? = some lostPair :=
  ⟨List.length_replicate, List.length_replicate, by unfold subcodeInRange; decide, by decide +kernel, by decide +kernel⟩
theorem test_witness_WordsAndMessagesReadBack : messageInRange { aMessage .localClaim with kind := 31, body := octetsOf 16 } :=
  by unfold messageInRange; decide
theorem test_message_bits : readMessage (messageBits 2 (aMessage .localClaim)) = (2, message 2 [0]) ∧
    messagePasses (messageBits 2 (aMessage .localClaim)) = true := by decide +kernel

/-! ### Invariants -/

theorem test_reset_shaped : shaped State.reset.dev ∧ step State.reset = .next State.reset :=
  ⟨⟨ringPlaced_check (by decide), by unfold tablesShaped; decide⟩, rfl⟩
theorem test_reset_recorder : recorderFollowsMode State.reset.dev ∧ queuesBounded State.reset.dev :=
  ⟨fun _ => rfl, by unfold queuesBounded; decide⟩

end Sys2Proof.Tests
end

section
/-! Settles O12: the four reads. The layouts that the statement spells field by field are the octets the model sends,
group by group; each read then reaches its rule by `takeCommand_ready`. -/

namespace Sys2Proof.Machine

open Sys2Proof

/-! ### Enumerations: a value's place in its table is its code (R197) -/

theorem motionField_eq_octets (m : Motion) : motionField m = octets 1 (motionCode m) := by cases m <;> rfl

theorem modeField_eq_octets (m : Mode) :
    enumField [Mode.play, .record, .insert] m = octets 1 (modeCode m) := by cases m <;> rfl

theorem copyField_eq_octets (c : CopyStatus) : copyField c = octets 1 (copyCode c) := by cases c <;> rfl

theorem playStateField_eq_octets (p : PlayState) :
    enumField [PlayState.stopped, .prefill, .running] p = octets 1 (playStateCode p) := by cases p <;> rfl

theorem recorderField_eq_octets (r : RecorderState) :
    enumField [RecorderState.idle, .awaitOrigin, .filling] r = octets 1 (recorderCode r) := by cases r <;> rfl

theorem headField_eq_octets (h : Head) : enumField [Head.a, .b] h = octets 1 (headCode h) := by cases h <;> rfl

theorem streamField_eq_octets (x : TapeStream) :
    enumField [TapeStream.advance, .confidence] x = octets 1 (streamCode x) := by cases x <;> rfl

theorem contextStateField_eq_octets (x : ContextState) :
    enumField [ContextState.clean, .holding, .fadingOut, .muted, .fadingIn] x = octets 1 (contextStateCode x) := by
  cases x <;> rfl

theorem seqStateField_eq_octets (x : SeqState) :
    enumField [SeqState.idle, .waiting, .inserting] x = octets 1 (seqStateCode x) := by cases x <;> rfl

theorem phaseField_eq_octets (p : Phase) :
    enumField [Phase.fadeIn, .full, .fadeOut] p = octets 1 (phaseCode p) := by cases p <;> rfl

theorem decisionField_eq_octets (x : Decision) :
    enumField [Decision.opened, .shut] x = octets 1 (decisionCode x) := by cases x <;> rfl

theorem attachmentField_eq_octets (a : Attachment) :
    enumField [Attachment.off, .listen, .align, .attached] a = octets 1 (attachmentCode a) := by cases a <;> rfl

theorem receiverField_eq_octets (r : Receiver) :
    enumField [Receiver.idle, .skip, .receiving] r = octets 1 (receiverCode r) := by cases r <;> rfl

theorem chaseStateField_eq_octets (c : ChaseState) :
    enumField [ChaseState.off, .waiting, .seeking, .catching, .locked, .holdover] c = octets 1 (chaseStateCode c) := by
  cases c <;> rfl

theorem windField_eq_octets (w : WindRequest) :
    enumField [WindRequest.none_, .windFwd, .windRev] w = octets 1 (windCode w) := by cases w <;> rfl

theorem tableField_eq_octets (t : TableName) :
    enumField [TableName.fade, .kernel] t = octets 1 (tableCode t) := by cases t <;> rfl

theorem ownReleaseField_eq_octets (r : OwnRelease) :
    enumField [OwnRelease.none_, .owed, .queued] r = octets 1 (ownReleaseCode r) := by cases r <;> rfl

theorem driveField_eq_octets (x : Drive) :
    enumField [Drive.driving, .stopped] x = octets 1 (driveCode x) := by cases x <;> rfl

theorem sourceField_eq_octets (x : Source) : sourceField x = octets 1 (sourceCode x) := by cases x <;> rfl

/-! ### Fields as functions, for those that stand inside a field that may be absent -/

theorem numberField_eq (k : Nat) : numberField k = octets k := funext (numberField_eq_octets k)

theorem signedField_eq (k : Nat) : signedField k = signedOctets k := funext (signedField_eq_octets k)

theorem copyField_eq : copyField = fun c => octets 1 (copyCode c) := funext copyField_eq_octets

/-! ### Fields that are read from a record -/

theorem placeField_eq_octets (p : Position) : placeField p = octets 3 p.segment ++ octets 2 p.offset := by
  simp only [placeField, numberField_eq_octets]

/-- A position of the pair that follows (log 8). -/
theorem placeField_normalPosition (p : Position) : placeField (normalPosition p) = positionOctets p :=
  placeField_eq_octets _

theorem tallyField_eq_octets (t : Tally) : tallyField t = tallyOctets t := by
  simp only [tallyField, tallyOctets, numberField_eq]

/-- ENCODED has two codes, told apart by whether stripe A is written (R197). -/
theorem slotStateField_eq_octets (r : Option Segment) : slotStateField r = octets 1 (slotStateCode r) := by
  rcases r with _ | r
  · rfl
  · rcases hs : r.state <;> rcases hw : r.writtenA <;> simp [slotStateField, slotStateCode, hs, hw] <;> rfl

theorem slotListing_eq_octets (r : Option Segment) : slotListing r = ringSlotOctets r := by
  simp only [slotListing, ringSlotOctets, slotStateField_eq_octets, presentField_eq_octets, numberField_eq,
    flagField_eq_octet, tallyField_eq_octets, optionNumber, Option.map_map, Function.comp_def]

/-! ### Copy statuses of the sources (R116 to R118) -/

theorem subcodeCopy_eq_status (x : Option Subcode) : subcodeCopy x = subcodeStatus x := by cases x <;> rfl

theorem receivedCopy_eq_linkStatus (k : Nat) (d : Device) : receivedCopy k d = linkStatus k d := by
  simp only [receivedCopy, linkStatus]
  cases (slotEntry k d).owner <;> cases (slotEntry k d).copy <;> rfl

theorem confidenceCopy_eq_status (d : Device) : confidenceCopy d = confidenceStatus d := by
  unfold confidenceCopy confidenceStatus confSegment
  split
  · rcases heldIn .confOut d.ring.conf.position.segment d with _ | r
    · rfl
    · exact subcodeCopy_eq_status _
  · rfl

/-- TAPE takes the segment's status while the play playout is RUNNING, joined with the feed's while INSERTING (R117). -/
theorem tapeCopy_eq_status (d : Device) : tapeCopy d = tapeStatusNow d := by
  simp only [tapeCopy, tapeStatusNow, tapeStatus, tapeSegmentStatus, playSegment, feedStatusNow,
    subcodeCopy_eq_status, receivedCopy_eq_linkStatus]
  cases d.ring.play.state <;> cases sourceFor .recordFeed d <;> rfl

/-! ### The groups of STATUS_READ (R192) -/

/-- Groups 1 to 3 (R20, R43). -/
theorem tapeGroups_eq_octets (d : Device) : tapeGroups d = deckOctets d ++ ringOctets d ++ recordingOctets d := by
  have hslots : d.ring.slots.flatMap slotListing = d.ring.slots.flatMap ringSlotOctets := by
    rw [funext slotListing_eq_octets]
  have hconf : presentField 5 placeField (if d.ring.conf.running then some d.ring.conf.position else none) =
      optionOctets 5 (if d.ring.conf.running then
        some (octets 3 d.ring.conf.position.segment ++ octets 2 d.ring.conf.position.offset) else none) := by
    rw [presentField_eq_octets, funext placeField_eq_octets]
    split <;> rfl
  simp only [tapeGroups, deckOctets, ringOctets, recordingOctets, hslots, hconf, motionField_eq_octets,
    modeField_eq_octets, playStateField_eq_octets, recorderField_eq_octets, placeField_normalPosition,
    numberField_eq, flagField_eq_octet, presentField_eq_octets, optionNumber, Option.map_map, Function.comp_def,
    List.append_assoc]

/-- Groups 4 and 5 (R64, R83). -/
theorem decodeGroups_eq_octets (d : Device) : decodeGroups d = decodingOctets d ++ concealOctets d := by
  unfold decodeGroups decodingOctets concealOctets decodeInFlight expectationOctets patternOctets contextOctets
  simp only [headField_eq_octets, streamField_eq_octets, contextStateField_eq_octets, numberField_eq,
    flagField_eq_octet, presentField_eq_octets, optionNumber, List.append_assoc]

/-- A count over the places that passes an EMPTY place by is the model's count of entries. -/
theorem countP_eq_countEntries {f : Option Entry → Bool} {p : Entry → Bool} {d : Device}
    (hsome : ∀ e, f (some e) = p e) (hnone : f none = false) : d.edit.places.countP f = countEntries p d := by
  have hf : f = fun o => (o.map p).getD false := by
    funext o
    cases o
    · exact hnone
    · exact hsome _
  rw [hf, countEntries]

/-- One driven slot, four octets either way (log 17). -/
theorem relayField_eq_octets (d : Device) (k : Nat) :
    presentField 3 (fun r : Relay => presentField 1 copyField r.history.head? ++ flagField r.heldBack)
      (if drivesSlot k d then some (relayOf k d) else none) = relayOctets d k := by
  unfold relayOctets
  split
  · simp only [presentField_eq_octets, flagField_eq_octet, copyField_eq, optionNumber, Option.map_map,
      Function.comp_def]
    rfl
  · rfl

/-- Groups 6 and 7 (R113, R129). -/
theorem editGroups_eq_octets (d : Device) : editGroups d = editOctets d ++ copyOctets d := by
  simp only [editGroups, relayField_eq_octets]
  rw [countP_eq_countEntries (p := fun _ => true), countP_eq_countEntries (p := fun e => e.report == .waiting)]
  · simp only [editOctets, copyOctets, seqStateField_eq_octets, funext phaseField_eq_octets, sourceField_eq_octets,
      copyField_eq, decisionField_eq_octets, tapeCopy_eq_status, confidenceCopy_eq_status, numberField_eq,
      presentField_eq_octets, optionNumber, Option.map_map, Function.comp_def, List.append_assoc]
  all_goals intros; rfl

/-- The lead position as a sample count (R174). -/
theorem leadField_eq_octets (c : Chase) :
    presentField 5 (fun w : LeadWord => numberField 5
      (480 * w.position.segment + w.position.offset + if w.motion = .playing then w.age else 0)) c.leadWord =
    optionNumber 5 (leadPosition c) := by
  simp only [presentField_eq_octets, numberField_eq, optionNumber, leadPosition, sampleCount, Option.map_map,
    Function.comp_def, Nat.mul_comm]

/-- Groups 8 and 9 (R152, R182). -/
theorem linkGroups_eq_octets (d : Device) : linkGroups d = linkOctets d ++ chaseOctets d := by
  unfold linkGroups
  simp only [leadField_eq_octets]
  simp only [linkOctets, chaseOctets, attachmentField_eq_octets, receiverField_eq_octets, chaseStateField_eq_octets,
    windField_eq_octets, numberField_eq, signedField_eq, flagField_eq_octet, presentField_eq_octets, optionNumber,
    optionSigned, List.append_assoc]
  congr 2

/-! ### The data of the four reads -/

theorem statusLayout_eq_octets (d : Device) : statusLayout d = statusOctets d := by
  simp only [statusLayout, statusOctets, portOctets, eventSetOctets, tapeGroups_eq_octets, decodeGroups_eq_octets,
    editGroups_eq_octets, linkGroups_eq_octets, tableField_eq_octets, numberField_eq, flagField_eq_octet,
    List.append_assoc]

/-- The drive is sent for a slot of this station alone (R171). -/
theorem driveField_eq_option (k : Nat) (d : Device) :
    presentField 1 (enumField [Drive.driving, .stopped])
      (if (slotEntry k d).owner = some (cfg d).station then (slotEntry k d).drive else none) =
    optionNumber 1 (if ownsSlot k d then (slotEntry k d).drive.map driveCode else none) := by
  rw [presentField_eq_octets, funext driveField_eq_octets]
  by_cases h : (slotEntry k d).owner = some (cfg d).station <;>
    simp [ownsSlot, h, optionNumber, Function.comp_def]

theorem slotsLayout_eq_octets (d : Device) : slotsLayout d = slotsOctets d := by
  simp only [slotsLayout, driveField_eq_option]
  unfold slotsOctets slotOctets
  simp only [receivedCopy_eq_linkStatus, copyField_eq, placeField_eq_octets, motionField_eq_octets,
    ownReleaseField_eq_octets, numberField_eq, flagField_eq_octet, presentField_eq_octets, optionNumber]

theorem countersLayout_eq_octets (c : CounterSet) : countersLayout c = counterOctets c := by
  simp only [countersLayout, counterOctets, numberField_eq_octets]

/-! ### The frame itself does not show in the data -/

theorem statusOctets_clockIn (code : Byte) (args : List Byte) (d : Device) :
    statusOctets (clockIn code args d) = statusOctets d := rfl

theorem slotsOctets_clockIn (code : Byte) (args : List Byte) (d : Device) :
    slotsOctets (clockIn code args d) = slotsOctets d := rfl

/-! ### The four reads -/

section
variable {args : List Byte} {s : State}

/-- SLOTS_READ (R171). -/
theorem exec_slotsRead_ready (h : commandReady s.dev) (hl : args.length = 0) :
    exec (.slotsRead args) s = .next (s.withDev (answered 9 args (done (slotsLayout s.dev)) s.dev)) := by
  change Host.Outcome.next (s.withDev (takeCommand 9 0 args slotsReadRule s.dev)) = _
  rw [takeCommand_ready h hl, slotsReadRule, respond_unchanged, slotsOctets_clockIn, slotsLayout_eq_octets]

/-- STATUS_READ (R192, R141). -/
theorem exec_statusRead_ready (h : commandReady s.dev) (hl : args.length = 0) :
    exec (.statusRead args) s = .next (s.withDev (answered 24 args (done (statusLayout s.dev))
      { s.dev with link := { s.dev.link with bad := 0 } })) := by
  change Host.Outcome.next (s.withDev (takeCommand 24 0 args statusReadRule s.dev)) = _
  rw [takeCommand_ready h hl, statusReadRule, statusOctets_clockIn, statusLayout_eq_octets,
    respond_changed 24 args _ _ rfl]
  rfl

/-- PEAKS_READ (R169). -/
theorem exec_peaksRead_ready (h : commandReady s.dev) (hl : args.length = 0) :
    exec (.peaksRead args) s = .next (s.withDev (answered 26 args
      (done (numberField 3 s.dev.router.mainLeft ++ numberField 3 s.dev.router.mainRight ++
        numberField 3 s.dev.router.monitorLeft ++ numberField 3 s.dev.router.monitorRight))
      { s.dev with
        router := { s.dev.router with mainLeft := 0, mainRight := 0, monitorLeft := 0, monitorRight := 0 } })) := by
  change Host.Outcome.next (s.withDev (takeCommand 26 0 args peaksReadRule s.dev)) = _
  rw [takeCommand_ready h hl, peaksReadRule, respond_changed 26 args _ _ rfl]
  simp only [numberField_eq_octets]
  rfl

/-- COUNTERS_READ for a stream that its argument names (R82). -/
theorem exec_countersRead_ready {p : Playback} (h : commandReady s.dev) (hl : args.length = 1)
    (hp : playbackArg (octetAt 0 args) = some p) :
    exec (.countersRead args) s = .next (s.withDev (answered 25 args (done (countersLayout (countersOf p s.dev)))
      (putCounters p CounterSet.zero s.dev))) := by
  change Host.Outcome.next (s.withDev (takeCommand 25 1 args (countersReadRule args) s.dev)) = _
  rw [takeCommand_ready h hl, countersLayout_eq_octets]
  simp only [countersReadRule, hp]
  cases p <;> rfl

/-- COUNTERS_READ for an argument that names no stream (R184). -/
theorem exec_countersRead_badArg (h : commandReady s.dev) (hl : args.length = 1)
    (hp : playbackArg (octetAt 0 args) = none) :
    exec (.countersRead args) s = .next (s.withDev (answered 25 args (answer .badArg) s.dev)) := by
  change Host.Outcome.next (s.withDev (takeCommand 25 1 args (countersReadRule args) s.dev)) = _
  rw [takeCommand_ready h hl]
  simp only [countersReadRule, hp, respond_unchanged]

end

/-- A stream argument above 1 names no stream (R197). -/
theorem playbackArg_eq_none {v : Nat} (h : 1 < v) : playbackArg v = none := by
  match v, h with
  | _ + 2, _ => rfl

/-- Settles O12: each read is its rule on the clocked-in frame, whose octets are the layout's. -/
theorem readsReturnAndClear : Obligations.ReadsReturnAndClear := by
  intro args s h
  refine ⟨fun hl => ⟨exec_slotsRead_ready h hl, exec_statusRead_ready h hl, exec_peaksRead_ready h hl⟩,
    fun hl => ⟨fun h0 => ?play, fun h1 => ?confidence, fun hbad => ?badArg⟩⟩
  case play => exact exec_countersRead_ready (p := .play) h hl (by rw [h0]; rfl)
  case confidence => exact exec_countersRead_ready (p := .confidence) h hl (by rw [h1]; rfl)
  case badArg => exact exec_countersRead_badArg h hl (playbackArg_eq_none hbad)

end Sys2Proof.Machine
end

section
/-! Settles O32: the head B window. The window's answer and its effect are decided by the record that the slot holds in
ENCODED, and by whether that record's stripe A is written. -/

namespace Sys2Proof.Machine

open Sys2Proof

/-- The record found under a segment number carries that number (R1). -/
theorem number_eq_of_held {n : Nat} {r : Segment} {d : Device} (h : held n d = some r) : r.number = n := by
  unfold held at h
  split at h
  next x _ =>
    obtain ⟨hn, hx⟩ := Option.ite_none_right_eq_some.mp h
    cases hx
    exact hn
  next => cases h

theorem held_of_heldIn {st : SlotState} {n : Nat} {r : Segment} {d : Device} (h : heldIn st n d = some r) :
    held n d = some r := by
  unfold heldIn at h
  split at h
  next x hx => exact (Option.ite_none_right_eq_some.mp h).2 ▸ hx
  next => cases h

/-- A head B window runs `takeWindowB` on the device. -/
theorem exec_writeWindowHeadB (n : Nat) (s : State) :
    exec (.writeWindowHeadB n) s = .next (s.withDev (takeWindowB n s.dev)) := rfl

section
variable {n : Nat} {d : Device} (hheld : d.resetHeld = false) (hconf : configured d = true)
include hheld hconf

/-- Stripe B of a half-written record: the writing is complete (R41). -/
theorem takeWindowB_halfWritten {r : Segment} (hr : heldIn .encoded n d = some r) (ha : r.writtenA = true) :
    takeWindowB n d = answerWindow (stripeAnswer .b r)
      (putSegment { r with writtenB := true, state := .written, stripes := none } d) := by
  simp [takeWindowB, hheld, hconf, hr, ha]

/-- No half-written record: the window is answered and nothing else happens (R41). -/
theorem takeWindowB_otherwise (hr : ∀ r, heldIn .encoded n d = some r → r.writtenA = false) :
    takeWindowB n d = answerWindow .noWrite d := by
  unfold takeWindowB
  rw [if_neg (by simp [hheld, hconf])]
  split
  next r h => simp [hr r h]
  next => rfl

end

/-- Settles O32: a half-written record gives stripe B and becomes WRITTEN, and any other window only answers. -/
theorem headBWindowCompletesTheWriting : Obligations.HeadBWindowCompletesTheWriting := by
  intro n s hheld hconf
  refine ⟨fun r x hr ha hx => ?written, fun hnot => ?noWrite⟩
  case written =>
    have hanswer : stripeAnswer .b r = .stripe x.b := by simp [stripeAnswer, hx]
    have hnumber : r.number = n := number_eq_of_held (held_of_heldIn hr)
    rw [exec_writeWindowHeadB, takeWindowB_halfWritten hheld hconf hr ha, hanswer, ← hnumber]
    rfl
  case noWrite =>
    rw [exec_writeWindowHeadB, takeWindowB_otherwise hheld hconf hnot]
    rfl

end Sys2Proof.Machine
end

section
/-! Settles O54: requantization. Its arithmetic is that of a floor to a step and of draws of a few top bits, each with
its range, stated for every step and every number of bits. -/

namespace Sys2Proof.Machine

open Sys2Proof

/-! ### The floor to a step (R36) -/

theorem tapeStep_pos (length : Nat) : 0 < tapeStep length := Int.pow_pos (by decide)

/-- On a step above 0 the two floors of integer division are one. -/
theorem floorTo_eq_fdiv {q : Int} (hq : 0 < q) (x : Int) : floorTo q x = Int.fdiv x q * q := by
  rw [floorTo, Int.fdiv_eq_ediv_of_nonneg x (Int.le_of_lt hq)]

theorem floorTo_le {q : Int} (hq : 0 < q) (x : Int) : floorTo q x ≤ x := Int.ediv_mul_le x (Int.ne_of_gt hq)

theorem lt_floorTo_add {q : Int} (hq : 0 < q) (x : Int) : x < floorTo q x + q := by
  simpa only [floorTo, Int.add_mul, Int.one_mul] using Int.lt_ediv_add_one_mul_self x hq

/-! ### The draws (R37) -/

theorem topBits_eq_shiftRight (s : Nat) (g : BitVec 32) : topBits s g = ((g.toNat >>> (32 - s) : Nat) : Int) := by
  rw [topBits, Nat.shiftRight_eq_div_pow]

theorem topBits_nonneg (s : Nat) (g : BitVec 32) : 0 ≤ topBits s g := Int.natCast_nonneg _

/-- A draw of `s` bits is below `2 ^ s`. -/
theorem topBits_lt {s : Nat} (hs : s ≤ 32) (g : BitVec 32) : topBits s g < 2 ^ s := by
  have hsplit : 2 ^ s * 2 ^ (32 - s) = 2 ^ 32 := by rw [← Nat.pow_add, Nat.add_sub_cancel' hs]
  have hdraw : g.toNat / 2 ^ (32 - s) < 2 ^ s := Nat.div_lt_of_lt_mul (by rw [Nat.mul_comm, hsplit]; exact g.isLt)
  rw [topBits]
  exact_mod_cast hdraw

/-- The dither of TRIANGULAR and SHAPED: the first draw less the second, each of as many bits as a tape step has. -/
def ditherOf (length : Nat) (g : BitVec 32) : Int :=
  topBits (24 - length) (nextGenerator g) - topBits (24 - length) (nextGenerator (nextGenerator g))

/-- The dither is smaller than a step, either way. -/
theorem ditherOf_range (length : Nat) (g : BitVec 32) :
    -(tapeStep length - 1) ≤ ditherOf length g ∧ ditherOf length g ≤ tapeStep length - 1 := by
  have hs : 24 - length ≤ 32 := by omega
  have hlt1 := topBits_lt hs (nextGenerator g)
  have hlt2 := topBits_lt hs (nextGenerator (nextGenerator g))
  have hge1 := topBits_nonneg (24 - length) (nextGenerator g)
  have hge2 := topBits_nonneg (24 - length) (nextGenerator (nextGenerator g))
  unfold ditherOf tapeStep
  omega

/-! ### One requantization in each mode (R36) -/

section
variable (length : Nat) (x e : Int) (g : BitVec 32)

theorem requantize_truncate : requantize .truncate length x e g = (floorTo (tapeStep length) x, e, g) := rfl

theorem requantize_round :
    requantize .round length x e g = (floorTo (tapeStep length) (x + tapeStep length / 2), e, g) := rfl

theorem requantize_triangular : requantize .triangular length x e g =
    (floorTo (tapeStep length) (x + ditherOf length g), e, nextGenerator (nextGenerator g)) := rfl

theorem requantize_shaped : requantize .shaped length x e g =
    (floorTo (tapeStep length) (x - e + ditherOf length g),
     floorTo (tapeStep length) (x - e + ditherOf length g) - (x - e), nextGenerator (nextGenerator g)) := rfl

/-- The floor takes away less than a step and the dither less than a step, so the SHAPED feedback stays below two. -/
theorem requantize_shaped_feedback_lt :
    (requantize .shaped length x e g).2.1.natAbs < 2 * (tapeStep length).natAbs := by
  have hq := tapeStep_pos length
  obtain ⟨hlow, hhigh⟩ := ditherOf_range length g
  have hle := floorTo_le hq (x - e + ditherOf length g)
  have hlt := lt_floorTo_add hq (x - e + ditherOf length g)
  rw [requantize_shaped]
  dsimp only
  omega

end

/-! ### Full scale -/

/-- Full scale upward is one step below the end of the range. -/
theorem fullScale_eq {length : Nat} (hl : length = 16 ∨ length = 20) (y : Int) :
    fullScale length y = max (-8388608) (min (if length = 16 then 8388352 else 8388592) y) := by
  rcases hl with rfl | rfl <;> rfl

/-- Settles O54: the modes are their equations, with the floor and the draws as the manual writes them; the feedback's
and the dither's ranges hold for every step. -/
theorem requantizationFollowsModes : Obligations.RequantizationFollowsModes := by
  intro length x e g hl q s g1 g2 r1 r2 v
  have hstep : tapeStep length = q := by rcases hl with rfl | rfl <;> rfl
  have hq : 0 < q := hstep ▸ tapeStep_pos length
  have hdither : ditherOf length g = r1 - r2 := by
    rw [ditherOf, topBits_eq_shiftRight, topBits_eq_shiftRight]
    rfl
  refine ⟨?truncate, ?round, ?triangular, ?shaped, ?feedback, ?low, ?high, fullScale_eq hl, fun _ _ _ => rfl⟩
  case truncate => rw [requantize_truncate, hstep, floorTo_eq_fdiv hq]
  case round =>
    rw [requantize_round, hstep, floorTo_eq_fdiv hq,
      Int.fdiv_eq_ediv_of_nonneg q (by decide : (0 : Int) ≤ 2)]
  case triangular =>
    rw [requantize_triangular, hstep, hdither, floorTo_eq_fdiv hq, ← Int.add_sub_assoc]
    rfl
  case shaped =>
    rw [requantize_shaped, hstep, hdither, floorTo_eq_fdiv hq, ← Int.add_sub_assoc]
    rfl
  case feedback => exact hstep ▸ requantize_shaped_feedback_lt length x e g
  case low => exact hstep ▸ hdither ▸ (ditherOf_range length g).1
  case high => exact hstep ▸ hdither ▸ (ditherOf_range length g).2

end Sys2Proof.Machine
end

section
/-! Settles O18: a subcode record against a pattern. Each criterion is turned into what it says of the record; a masked
comparison speaks of the bits that its mask sets. -/

namespace Sys2Proof.Machine

open Sys2Proof

/-- Two octets agree under a mask where they agree in each bit the mask sets (R60). -/
theorem maskedEqual_iff {a b mask : Byte} :
    maskedEqual a b mask = true ↔ ∀ k, mask.getLsbD k = true → a.getLsbD k = b.getLsbD k := by
  rw [maskedEqual, beq_iff_eq]
  constructor
  · intro h k hk
    have hbit : (a &&& mask).getLsbD k = (b &&& mask).getLsbD k := by rw [h]
    simpa only [BitVec.getLsbD_and, hk, Bool.and_true] using hbit
  · intro h
    refine BitVec.eq_of_getLsbD_eq fun k _ => ?_
    rw [BitVec.getLsbD_and, BitVec.getLsbD_and]
    cases hk : mask.getLsbD k
    · rw [Bool.and_false, Bool.and_false]
    · rw [h k hk]

/-- A mask with no bit set compares nothing. -/
@[simp] theorem maskedEqual_zero (a b : Byte) : maskedEqual a b 0 = true := by
  simp [maskedEqual]

/-- The match, criterion by criterion (R60). -/
theorem patternMatches_iff {p : Pattern} {x : Subcode} : patternMatches p x = true ↔
    maskedEqual p.programValue (BitVec.ofNat 8 (x.program.getD 255)) p.programMask = true ∧
    (p.indexCompared = true → x.indexMark = p.indexValue) ∧
    maskedEqual p.stationValue (BitVec.ofNat 8 x.station) p.stationMask = true ∧
    (∀ i, i < 4 → maskedEqual (p.labelValues.getD i 0) (x.label.getD i 0) (p.labelMasks.getD i 0) = true) ∧
    (p.segmentEnabled = true → p.segmentValue ≤ x.segment) := by
  have himp : ∀ (b : Bool) (q : Prop), (b = false ∨ q) ↔ (b = true → q) := by
    intro b q
    cases b <;> simp
  simp only [patternMatches, Bool.and_eq_true, Bool.or_eq_true, Bool.not_eq_true', beq_iff_eq, decide_eq_true_eq,
    List.all_eq_true, List.mem_range, himp, and_assoc]

/-- Settles O18: the criteria with each masked comparison read bit by bit; a pattern that compares nothing meets them
all. -/
theorem patternMatchesByCriteria : Obligations.PatternMatchesByCriteria := by
  intro p x agree
  refine ⟨?criteria, fun hprogram hstation hlabel hindex hsegment => ?comparesNothing⟩
  case criteria => simp only [patternMatches_iff, maskedEqual_iff, agree]
  case comparesNothing =>
    rw [patternMatches_iff, hprogram, hstation, hindex, hsegment]
    refine ⟨maskedEqual_zero _ _, nofun, maskedEqual_zero _ _, fun i hi => ?_, nofun⟩
    rw [hlabel i hi]
    exact maskedEqual_zero _ _

end Sys2Proof.Machine
end

section
/-! Settles O17: SEARCH_SET and the patterns at DECK_RESET. The pattern that a frame carries is read field by field; of
DECK_RESET's operations the decoding reset alone touches the Search Unit. -/

namespace Sys2Proof.Machine

open Sys2Proof

/-! ### The pattern in SEARCH_SET's arguments (R61, R197) -/

theorem flagArg_of_le {v : Nat} (h : v ≤ 1) : flagArg v = some (v == 1) := by
  match v, h with
  | 0, _ => rfl
  | 1, _ => rfl

theorem flagArg_eq_none {v : Nat} (h : 1 < v) : flagArg v = none := by
  match v, h with
  | _ + 2, _ => rfl

/-- Three octets of a row as one number. -/
theorem ofOctets_field_three {n : Nat} {l : List Byte} (h : n + 3 ≤ l.length) :
    ofOctets (field n 3 l) = (octetAt n l * 256 + octetAt (n + 1) l) * 256 + octetAt (n + 2) l := by
  have hget : ∀ i (hi : i < l.length), l.getD i 0 = l[i] := fun i hi => by
    rw [List.getD_eq_getElem?_getD, List.getElem?_eq_getElem hi, Option.getD_some]
  have hfield : field n 3 l = [l.getD n 0, l.getD (n + 1) 0, l.getD (n + 2) 0] := by
    rw [field, List.drop_eq_getElem_cons (by omega), List.drop_eq_getElem_cons (by omega),
      List.drop_eq_getElem_cons (by omega), hget n (by omega), hget (n + 1) (by omega), hget (n + 2) (by omega)]
    rfl
  rw [hfield, ofOctets_three]
  rfl

/-- The fields of a pattern in SEARCH_SET's arguments lie in their ranges (R61). -/
def patternInRange (l : List Byte) : Prop :=
  octetAt 1 l ≤ 1 ∧ octetAt 4 l ≤ 1 ∧ octetAt 5 l ≤ 1 ∧ octetAt 6 l ≤ 7 ∧ octetAt 7 l ≤ 7 ∧ octetAt 16 l ≤ 1 ∧
  1 ≤ octetAt 20 l ∧ octetAt 20 l ≤ 8

/-- The pattern that SEARCH_SET's arguments carry, in place of `old` (R61). -/
def patternFields (l : List Byte) (old : Pattern) : Pattern :=
  { enabled := octetAt 1 l == 1, programValue := l.getD 2 0, programMask := l.getD 3 0
    indexValue := octetAt 4 l == 1, indexCompared := octetAt 5 l == 1
    stationValue := l.getD 6 0, stationMask := l.getD 7 0
    labelValues := field 8 4 l, labelMasks := field 12 4 l
    segmentEnabled := octetAt 16 l == 1
    segmentValue := (octetAt 17 l * 256 + octetAt 18 l) * 256 + octetAt 19 l
    count := octetAt 20 l, matches_ := 0, lastHit := old.lastHit }

theorem patternArg_of_inRange {l : List Byte} (hl : l.length = 21) (h : patternInRange l) (old : Pattern) :
    patternArg l old = some (patternFields l old) := by
  obtain ⟨henabled, hindex, hcompared, hstation, hmask, hsegment, hlow, hhigh⟩ := h
  have hrange : ¬ (7 < octetAt 6 l ∨ 7 < octetAt 7 l ∨ octetAt 20 l = 0 ∨ 8 < octetAt 20 l) := by omega
  rw [patternArg, flagArg_of_le henabled, flagArg_of_le hindex, flagArg_of_le hcompared, flagArg_of_le hsegment]
  dsimp only
  rw [if_neg hrange, ofOctets_field_three (by omega)]
  rfl

/-- A pattern is read from no arguments but those in range. -/
theorem inRange_of_patternArg {l : List Byte} {old p : Pattern} (h : patternArg l old = some p) :
    patternInRange l := by
  have hflag : ∀ {v b}, flagArg v = some b → v ≤ 1 := by
    intro v b hv
    refine Nat.not_lt.mp fun hgt => ?_
    rw [flagArg_eq_none hgt] at hv
    cases hv
  unfold patternArg at h
  split at h
  next henabled hindex hcompared hsegment =>
    split at h
    next => cases h
    next hrange =>
      have := hflag henabled
      have := hflag hindex
      have := hflag hcompared
      have := hflag hsegment
      unfold patternInRange
      omega
  next => cases h

theorem patternArg_eq_none {l : List Byte} (h : ¬ patternInRange l) (old : Pattern) : patternArg l old = none :=
  Option.eq_none_iff_forall_ne_some.mpr fun _ hp => h (inRange_of_patternArg hp)

/-! ### SEARCH_SET's rule (R61) -/

/-- The number names no pattern, or a field is out of its range: nothing changes. -/
theorem searchSetRule_badArg {args : List Byte} {d : Device} (h : ¬ (octetAt 0 args ≤ 3 ∧ patternInRange args)) :
    searchSetRule args d = (d, answer .badArg) := by
  unfold searchSetRule
  by_cases hi : 3 < octetAt 0 args
  · rw [if_pos hi]
  · have hp : ¬ patternInRange args := fun hp => h ⟨by omega, hp⟩
    rw [if_neg hi, patternArg_eq_none hp]

/-- The pattern of a number in range is replaced. -/
theorem searchSetRule_done {args : List Byte} {d : Device} (hl : args.length = 21) (hi : octetAt 0 args ≤ 3)
    (hp : patternInRange args) :
    searchSetRule args d =
      (putPattern (octetAt 0 args) (patternFields args (patternAt (octetAt 0 args) d)) d, done []) := by
  rw [searchSetRule, if_neg (by omega), patternArg_of_inRange hl hp]

theorem patternAt_of_getElem? {i : Nat} {p : Pattern} {d : Device} (h : d.search.patterns[i]? = some p) :
    patternAt i d = p := by
  rw [patternAt, List.getD_eq_getElem?_getD, h, Option.getD_some]

/-- A SEARCH_SET frame of the right length is its rule on the clocked-in frame (R184). -/
theorem exec_searchSet_ready {args : List Byte} {s : State} (h : commandReady s.dev) (hl : args.length = 21) :
    exec (.searchSet args) s = .next (s.withDev (respond (searchSetRule args (clockIn 17 args s.dev)))) := by
  change Host.Outcome.next (s.withDev (takeCommand 17 21 args (searchSetRule args) s.dev)) = _
  rw [takeCommand_ready h hl]

/-! ### What leaves the Search Unit alone -/

theorem EditTraffic.search_eq {d d' : Device} (h : EditTraffic d d') : d'.search = d.search := by rw [h.rest]

theorem RingTraffic.search_eq {d d' : Device} (h : RingTraffic d d') : d'.search = d.search := by rw [h.rest]

@[simp] theorem stopPlay_search (d : Device) : (stopPlay d).search = d.search := by
  unfold stopPlay
  split <;> rfl

@[simp] theorem flush_search (d : Device) : (flush d).search = d.search := by
  simp [flush, zeroInFlight, setRecordedRun]

@[simp] theorem startAllContexts_search (d : Device) : (startAllContexts d).search = d.search := rfl

@[simp] theorem resetEncoder_search (d : Device) : (resetEncoder d).search = d.search := rfl

@[simp] theorem cancelEdits_search (d : Device) : (cancelEdits d).search = d.search := (cancelEdits_traffic d).search_eq

@[simp] theorem leaveRecord_search (d : Device) : (leaveRecord d).search = d.search := by
  simp [leaveRecord, freeStates, (freeSlots_traffic _ d).search_eq]

@[simp] theorem forcePlay_search (cause : ModeCause) (d : Device) : (forcePlay cause d).search = d.search := by
  unfold forcePlay
  split
  case h_1 => rfl
  case h_2 => exact leaveRecord_search d
  case h_3 => rfl

/-! ### DECK_RESET (R194, R61) -/

/-- DECK_RESET leaves the Search Unit as the decoding reset leaves it. -/
theorem resetDeck_search (d : Device) : (resetDeck d).search =
    { patterns := d.search.patterns.map (fun p => { p with matches_ := 0 }), compared := none, awaiting := none } := by
  simp [resetDeck, resetDecoding]

/-- A DECK_RESET frame is the reset of the device with the frame clocked in (R184). -/
theorem exec_deckReset_ready {args : List Byte} {s : State} (h : commandReady s.dev) (hl : args.length = 0) :
    exec (.deckReset args) s = .next (s.withDev (respond (deckResetRule (clockIn 27 args s.dev)))) := by
  change Host.Outcome.next (s.withDev (takeCommand 27 0 args deckResetRule s.dev)) = _
  rw [takeCommand_ready h hl]

/-- Settles O17: the rule refuses what lies out of range and replaces the pattern otherwise; DECK_RESET's effect on the
patterns is the decoding reset's. -/
theorem searchSetReplacesPattern : Obligations.SearchSetReplacesPattern := by
  intro args s h hl _ o good pattern
  have hgood : good ↔ octetAt 0 args ≤ 3 ∧ patternInRange args := Iff.rfl
  refine ⟨fun hbad => ?badArg, fun hok old hold => ?replaced, ?deckReset⟩
  case badArg =>
    rw [exec_searchSet_ready h hl, searchSetRule_badArg (fun hok => hbad (hgood.mpr hok)), respond_unchanged]
  case replaced =>
    obtain ⟨hi, hp⟩ := hgood.mp hok
    have hat : patternAt (octetAt 0 args) (clockIn 17 args s.dev) = old := patternAt_of_getElem? hold
    rw [exec_searchSet_ready h hl, searchSetRule_done hl hi hp, hat, respond_changed 17 args _ _ rfl]
    rfl
  case deckReset =>
    refine ⟨_, exec_deckReset_ready h rfl, ?_⟩
    exact congrArg Search.patterns (resetDeck_search (clockIn 27 [] s.dev))

end Sys2Proof.Machine
end

section
/-! Settles O57: the derivation of a copy status. What "one step more restrictive" and "a refusal" are is said in the
order of the statuses, for every source but LINE_IN; the table's rows are cases of it. -/

namespace Sys2Proof.Machine

open Sys2Proof

/-- A period from LINE_IN is an original: its feed's status stays (R120). -/
@[simp] theorem derived_lineIn (feed : CopyStatus) : derived .lineIn feed = some feed := rfl

/-- OPEN stays OPEN from every source (R120). -/
@[simp] theorem derived_openCopy (source : Source) : derived source .openCopy = some .openCopy := by
  cases source <;> rfl

/-- The derivation tells LINE_IN from the other sources, and those not from each other (R120). -/
theorem derived_eq_of_ne_lineIn {source : Source} (hs : source ≠ .lineIn) (feed : CopyStatus) :
    derived source feed = derived .silence feed := by
  cases source with
  | lineIn => exact absurd rfl hs
  | tape | confidence | linkRx | silence => rfl

/-- A copy of any status but OPEN derives one step more restrictive in the order of the statuses, and SPENT takes no
step (R120). -/
theorem derived_eq_some_iff {source : Source} {feed x : CopyStatus} (hs : source ≠ .lineIn)
    (hf : feed ≠ .openCopy) :
    derived source feed = some x ↔ feed ≠ .spent ∧ copyRank x = copyRank feed + 1 := by
  rw [derived_eq_of_ne_lineIn hs]
  cases feed with
  | openCopy => exact absurd rfl hf
  | counted3 | counted2 | counted1 | spent | unknown => cases x <;> decide

/-- A copy is refused exactly where its feed's status is SPENT or UNKNOWN (R120). -/
theorem derived_eq_none_iff {source : Source} {feed : CopyStatus} (hs : source ≠ .lineIn) :
    derived source feed = none ↔ feed = .spent ∨ feed = .unknown := by
  rw [derived_eq_of_ne_lineIn hs]
  cases feed <;> decide

/-- Settles O57: the counted rows are the step in the order of the statuses, the last two the refusals. -/
theorem derivedStatusTable : Obligations.DerivedStatusTable := by
  refine ⟨derived_lineIn, derived_openCopy .silence, fun k => ?_⟩
  have hs : Source.linkRx k ≠ .lineIn := nofun
  have oneStep {feed x : CopyStatus} (hf : feed ≠ .openCopy)
      (h : feed ≠ .spent ∧ copyRank x = copyRank feed + 1) : derived (.linkRx k) feed = some x :=
    (derived_eq_some_iff hs hf).mpr h
  exact ⟨derived_openCopy _, oneStep nofun (by decide), oneStep nofun (by decide), oneStep nofun (by decide),
    (derived_eq_none_iff hs).mpr (.inl rfl), (derived_eq_none_iff hs).mpr (.inr rfl)⟩

end Sys2Proof.Machine
end

section
/-! Settles O10: ROUTE_SET and ROUTE_READ. An octet of the frame names a source, a destination or a flag exactly where it
lies in the enumeration's range; the rule is then decided by what the three octets name. -/

namespace Sys2Proof.Machine

open Sys2Proof

/-! ### The octets of a route (R197) -/

/-- A source is read back from its code; the link slots are 0 to 11. -/
theorem sourceArg_sourceCode {x : Source} (h : ∀ k, x = .linkRx k → k ≤ 11) : sourceArg (sourceCode x) = some x := by
  cases x with
  | lineIn | tape | confidence | silence => rfl
  | linkRx k =>
    have hk : k ≤ 11 := h k rfl
    have hrange : 3 + k ≠ 1 ∧ 3 + k ≠ 2 ∧ 3 + k ≤ 14 := by omega
    simp [sourceArg, sourceCode, hrange]

theorem sourceArg_eq_none {v : Nat} (h : 15 < v) : sourceArg v = none := by
  match v, h with
  | v + 16, _ => simp [sourceArg]

/-- A destination is read back from its code; the link slots are 0 to 11. -/
theorem destinationArg_destinationCode {y : Destination} (h : ∀ k, y = .linkTx k → k ≤ 11) :
    destinationArg (destinationCode y) = some y := by
  cases y with
  | mainOut | monitorOut | recordFeed => rfl
  | linkTx k =>
    have hk : k ≤ 11 := h k rfl
    have hrange : 3 + k ≠ 1 ∧ 3 + k ≠ 2 ∧ 3 + k ≤ 14 := by omega
    simp [destinationArg, destinationCode, hrange]

theorem destinationArg_eq_none {v : Nat} (h : 14 < v) : destinationArg v = none := by
  match v, h with
  | v + 15, _ => simp [destinationArg]

/-- A flag is read back from its octet. -/
theorem flagArg_of_flag (e : Bool) : flagArg (if e then 1 else 0) = some e := by cases e <;> rfl

/-- The routes that R119 forbids: TAPE or CONFIDENCE into RECORD_FEED. -/
theorem forbiddenRoute_iff {x : Source} {y : Destination} :
    forbiddenRoute x y = true ↔ (x = .tape ∨ x = .confidence) ∧ y = .recordFeed := by simp [forbiddenRoute]

/-! ### The two rules (R167) -/

section
variable {args : List Byte} {d : Device}

/-- The octets name a route that R119 forbids. -/
theorem routeSetRule_forbidden {x : Source} {y : Destination} {e : Bool}
    (hx : sourceArg (octetAt 1 args) = some x) (hy : destinationArg (octetAt 2 args) = some y)
    (he : flagArg (octetAt 3 args) = some e) (hf : forbiddenRoute x y = true) :
    routeSetRule args d = (d, answer .badArg) := by simp [routeSetRule, hx, hy, he, hf]

/-- The octets name an entry and a route that R119 allows. -/
theorem routeSetRule_done {x : Source} {y : Destination} {e : Bool} (hi : octetAt 0 args ≤ 7)
    (hx : sourceArg (octetAt 1 args) = some x) (hy : destinationArg (octetAt 2 args) = some y)
    (he : flagArg (octetAt 3 args) = some e) (hf : forbiddenRoute x y = false) :
    routeSetRule args d = (d.setRouter { d.router with
      routes := d.router.routes.set (octetAt 0 args) { source := x, destination := y, enabled := e } }, done []) := by
  simp [routeSetRule, hx, hy, he, hf, Nat.not_lt.mpr hi]

/-- An octet beyond its range is BAD_ARG, whichever it is. -/
theorem routeSetRule_outOfRange
    (h : 7 < octetAt 0 args ∨ 15 < octetAt 1 args ∨ 14 < octetAt 2 args ∨ 1 < octetAt 3 args) :
    routeSetRule args d = (d, answer .badArg) := by
  unfold routeSetRule
  split
  next x y e hx hy he =>
    have hsource : ¬ 15 < octetAt 1 args := fun h => by simp [sourceArg_eq_none h] at hx
    have hdestination : ¬ 14 < octetAt 2 args := fun h => by simp [destinationArg_eq_none h] at hy
    have hflag : ¬ 1 < octetAt 3 args := fun h => by simp [flagArg_eq_none h] at he
    have hentry : 7 < octetAt 0 args := by omega
    rw [if_pos (.inl hentry)]
  next => rfl

/-- ROUTE_READ answers the entry that its argument names. -/
theorem routeReadRule_of_getElem? {r : Route} (hr : d.router.routes[octetAt 0 args]? = some r) :
    routeReadRule args d = (d, done (routeOctets (octetAt 0 args) r d)) := by simp [routeReadRule, hr]

/-- ROUTE_READ of no entry is BAD_ARG. -/
theorem routeReadRule_badArg (hr : d.router.routes[octetAt 0 args]? = none) :
    routeReadRule args d = (d, answer .badArg) := by simp [routeReadRule, hr]

end

/-- A ROUTE_SET frame is its rule on the device with the frame clocked in (R184). -/
theorem exec_routeSet_ready {args : List Byte} {s : State} (h : commandReady s.dev) (hl : args.length = 4) :
    exec (.routeSet args) s = .next (s.withDev (respond (routeSetRule args (clockIn 5 args s.dev)))) := by
  change Host.Outcome.next (s.withDev (takeCommand 5 4 args (routeSetRule args) s.dev)) = _
  rw [takeCommand_ready h hl]

/-- A ROUTE_READ frame is its rule on the device with the frame clocked in (R184). -/
theorem exec_routeRead_ready {args : List Byte} {s : State} (h : commandReady s.dev) (hl : args.length = 1) :
    exec (.routeRead args) s = .next (s.withDev (respond (routeReadRule args (clockIn 6 args s.dev)))) := by
  change Host.Outcome.next (s.withDev (takeCommand 6 1 args (routeReadRule args) s.dev)) = _
  rw [takeCommand_ready h hl]

/-- Settles O10: the octets read back to the fields whose codes they are, and the rule is split by what R119 forbids. -/
theorem routeCommandsSetAndRead : Obligations.RouteCommandsSetAndRead := by
  intro args s h hroutes
  refine ⟨fun hl x y e hx hy hkx hky he hi => ?set, fun hl hbad => ?outOfRange, fun hl r hr => ?read,
    fun hl hbad => ?noEntry⟩
  case set =>
    have hsource : sourceArg (octetAt 1 args) = some x := hx ▸ sourceArg_sourceCode hkx
    have hdestination : destinationArg (octetAt 2 args) = some y := hy ▸ destinationArg_destinationCode hky
    have hflag : flagArg (octetAt 3 args) = some e := he ▸ flagArg_of_flag e
    refine ⟨fun hf => ?forbidden, fun hf => ?allowed⟩
    case forbidden =>
      rw [exec_routeSet_ready h hl, routeSetRule_forbidden hsource hdestination hflag (forbiddenRoute_iff.mpr hf),
        respond_unchanged]
    case allowed =>
      have hallowed : forbiddenRoute x y = false := Bool.eq_false_iff.mpr (fun h => hf (forbiddenRoute_iff.mp h))
      rw [exec_routeSet_ready h hl, routeSetRule_done hi hsource hdestination hflag hallowed,
        respond_changed 5 args _ _ rfl]
      rfl
  case outOfRange => rw [exec_routeSet_ready h hl, routeSetRule_outOfRange hbad, respond_unchanged]
  case read =>
    rw [exec_routeRead_ready h hl, routeReadRule_of_getElem? (d := clockIn 6 args s.dev) hr, respond_unchanged]
    rfl
  case noEntry =>
    have hnone : s.dev.router.routes[octetAt 0 args]? = none := List.getElem?_eq_none (by omega)
    rw [exec_routeRead_ready h hl, routeReadRule_badArg (d := clockIn 6 args s.dev) hnone, respond_unchanged]

end Sys2Proof.Machine
end

section
/-! Settles O11: SLOT_CLAIM and SLOT_RELEASE. Each rule is a chain of checks; one lemma for each place where the chain can
end says what is answered there. -/

namespace Sys2Proof.Machine

open Sys2Proof

/-! ### Where the two chains of checks end (R155, R156) -/

section
variable {args : List Byte} {d : Device}

theorem slotClaimRule_badArg (hk : 11 < octetAt 0 args) : slotClaimRule args d = (d, answer .badArg) := by
  simp [slotClaimRule, hk]

theorem slotReleaseRule_badArg (hk : 11 < octetAt 0 args) : slotReleaseRule args d = (d, answer .badArg) := by
  simp [slotReleaseRule, hk]

section
variable (hk : octetAt 0 args ≤ 11) (ha : d.link.attachment ≠ .attached)
include hk ha

theorem slotClaimRule_notAttached : slotClaimRule args d = (d, refusedFor .notAttached) := by
  simp [slotClaimRule, Nat.not_lt.mpr hk, attached, ha]

theorem slotReleaseRule_notAttached : slotReleaseRule args d = (d, refusedFor .notAttached) := by
  simp [slotReleaseRule, Nat.not_lt.mpr hk, attached, ha]

end

variable (hk : octetAt 0 args ≤ 11) (ha : d.link.attachment = .attached)
include hk ha

/-- A slot that is HELD, or for which this station has a claim queued (R155). -/
theorem slotClaimRule_busy
    (he : (slotEntry (octetAt 0 args) d).owner ≠ none ∨ (slotEntry (octetAt 0 args) d).ownClaim = true) :
    slotClaimRule args d = (d, answer .busy) := by
  rw [← Option.isSome_iff_ne_none] at he
  simp [slotClaimRule, Nat.not_lt.mpr hk, attached, ha, he]

/-- A FREE slot with no claim queued, and a full queue (R155). -/
theorem slotClaimRule_queueFull (ho : (slotEntry (octetAt 0 args) d).owner = none)
    (hc : (slotEntry (octetAt 0 args) d).ownClaim = false) (hq : 8 ≤ d.link.queue.length) :
    slotClaimRule args d = (d, answer .queueFull) := by
  simp [slotClaimRule, Nat.not_lt.mpr hk, attached, ha, ho, hc, hq]

/-- Every check is passed: the claim is queued (R155). -/
theorem slotClaimRule_done (ho : (slotEntry (octetAt 0 args) d).owner = none)
    (hc : (slotEntry (octetAt 0 args) d).ownClaim = false) (hq : d.link.queue.length < 8) :
    slotClaimRule args d =
      (putSlotEntry (octetAt 0 args) { slotEntry (octetAt 0 args) d with ownClaim := true }
        (setQueue (joinQueue (ownSlotMessage 2 (octetAt 0 args) .localClaim) d.link.queue) d), done []) := by
  simp [slotClaimRule, Nat.not_lt.mpr hk, attached, ha, ho, hc, Nat.not_le.mpr hq, ownSlotMessage, newMessage,
    kindSlotClaim]

/-- A slot that is not this station's (R156). -/
theorem slotReleaseRule_notOwner (ho : (slotEntry (octetAt 0 args) d).owner ≠ some (cfg d).station) :
    slotReleaseRule args d = (d, refusedFor .notOwner) := by
  simp [slotReleaseRule, Nat.not_lt.mpr hk, attached, ha, ownsSlot, ho]

variable (ho : (slotEntry (octetAt 0 args) d).owner = some (cfg d).station)
include ho

/-- This station's slot with a release owed or queued (R156). -/
theorem slotReleaseRule_busy (hr : (slotEntry (octetAt 0 args) d).ownRelease ≠ .none_) :
    slotReleaseRule args d = (d, answer .busy) := by
  simp [slotReleaseRule, Nat.not_lt.mpr hk, attached, ha, ownsSlot, ho, hr]

variable (hr : (slotEntry (octetAt 0 args) d).ownRelease = .none_)
include hr

/-- This station's slot with no release owed or queued, and a full queue (R156). -/
theorem slotReleaseRule_queueFull (hq : 8 ≤ d.link.queue.length) :
    slotReleaseRule args d = (d, answer .queueFull) := by
  simp [slotReleaseRule, Nat.not_lt.mpr hk, attached, ha, ownsSlot, ho, hr, hq]

/-- Every check is passed: the release is queued (R156). -/
theorem slotReleaseRule_done (hq : d.link.queue.length < 8) :
    slotReleaseRule args d = (queueRelease (octetAt 0 args) .localRelease d, done []) := by
  simp [slotReleaseRule, Nat.not_lt.mpr hk, attached, ha, ownsSlot, ho, hr, Nat.not_le.mpr hq]

end

/-! ### The two frames -/

section
variable {args : List Byte} {s : State} (h : commandReady s.dev) (hl : args.length = 1)
include h hl

/-- A SLOT_CLAIM frame is its rule on the device with the frame clocked in (R184). -/
theorem exec_slotClaim_ready :
    exec (.slotClaim args) s = .next (s.withDev (respond (slotClaimRule args (clockIn 7 args s.dev)))) := by
  change Host.Outcome.next (s.withDev (takeCommand 7 1 args (slotClaimRule args) s.dev)) = _
  rw [takeCommand_ready h hl]

/-- A SLOT_RELEASE frame is its rule on the device with the frame clocked in (R184). -/
theorem exec_slotRelease_ready :
    exec (.slotRelease args) s = .next (s.withDev (respond (slotReleaseRule args (clockIn 8 args s.dev)))) := by
  change Host.Outcome.next (s.withDev (takeCommand 8 1 args (slotReleaseRule args) s.dev)) = _
  rw [takeCommand_ready h hl]

/-- A SLOT_CLAIM whose rule leaves the device as it was. -/
theorem exec_slotClaim_unchanged {r : Response}
    (hr : slotClaimRule args (clockIn 7 args s.dev) = (clockIn 7 args s.dev, r)) :
    exec (.slotClaim args) s = .next (s.withDev (answered 7 args r s.dev)) := by
  rw [exec_slotClaim_ready h hl, hr, respond_unchanged]

/-- A SLOT_RELEASE whose rule leaves the device as it was. -/
theorem exec_slotRelease_unchanged {r : Response}
    (hr : slotReleaseRule args (clockIn 8 args s.dev) = (clockIn 8 args s.dev, r)) :
    exec (.slotRelease args) s = .next (s.withDev (answered 8 args r s.dev)) := by
  rw [exec_slotRelease_ready h hl, hr, respond_unchanged]

end

/-- Settles O11: the checks are passed one after another, and behind the last one stands the queue. -/
theorem slotCommandsQueueMessages : Obligations.SlotCommandsQueueMessages := by
  intro args s h hl k e
  refine ⟨fun hk => ⟨?claimBadArg, ?releaseBadArg⟩, fun hk ha => ⟨?claimDetached, ?releaseDetached⟩,
    fun hk ha => ⟨fun he => ?claimBusy, fun ho hc hq => ?claimFull, fun ho hc hq => ?claimQueued,
      fun ho => ?notOwner, fun ho hr => ?releaseBusy, fun ho hr hq => ?releaseFull, fun ho hr hq => ?releaseQueued⟩⟩
  case claimBadArg => exact exec_slotClaim_unchanged h hl (slotClaimRule_badArg hk)
  case releaseBadArg => exact exec_slotRelease_unchanged h hl (slotReleaseRule_badArg hk)
  case claimDetached => exact exec_slotClaim_unchanged h hl (slotClaimRule_notAttached hk ha)
  case releaseDetached => exact exec_slotRelease_unchanged h hl (slotReleaseRule_notAttached hk ha)
  case claimBusy => exact exec_slotClaim_unchanged h hl (slotClaimRule_busy hk ha he)
  case claimFull => exact exec_slotClaim_unchanged h hl (slotClaimRule_queueFull hk ha ho hc hq)
  case claimQueued =>
    rw [exec_slotClaim_ready h hl, slotClaimRule_done (d := clockIn 7 args s.dev) hk ha ho hc hq,
      respond_changed 7 args _ _ rfl]
    rfl
  case notOwner => exact exec_slotRelease_unchanged h hl (slotReleaseRule_notOwner hk ha ho)
  case releaseBusy => exact exec_slotRelease_unchanged h hl (slotReleaseRule_busy hk ha ho hr)
  case releaseFull => exact exec_slotRelease_unchanged h hl (slotReleaseRule_queueFull hk ha ho hr hq)
  case releaseQueued =>
    rw [exec_slotRelease_ready h hl, slotReleaseRule_done (d := clockIn 8 args s.dev) hk ha ho hr hq,
      respond_changed 8 args _ _ rfl]
    rfl

end Sys2Proof.Machine
end

section
/-! Lemmas for O36 and O37. How a slot message reaches the Slot Table; what the table, the events and the outgoing queue
hold after the operations that the two messages run. -/

namespace Sys2Proof.Machine

open Sys2Proof

/-! ### A slot message reaches its block (R141, R142) -/

/-- With no message of its own on the link the receiver only becomes idle before the message is taken (R141). -/
theorem messageArrives_received {kind : Nat} {m : LinkMessage} {d : Device} (h : receivesMessage d) :
    messageArrives kind m d = acceptMessage kind m (afterMessage d) := by
  obtain ⟨hattached, hreceiver, hqueue⟩ := h
  have hown : onLink d = none := by
    simpa [onLink, List.find?_eq_none] using hqueue
  have htaken : attached d = true ∧ d.link.receiver ≠ .skip := ⟨by simp [attached, hattached], hreceiver⟩
  simp only [messageArrives, if_pos htaken, hown]
  rfl

/-- The body of a slot message names its slot. -/
theorem octetAt_slotBody {k : Nat} (hk : k ≤ 11) : octetAt 0 [BitVec.ofNat 8 k] = k := by
  simp only [octetAt, List.getD_cons_zero, BitVec.toNat_ofNat]
  omega

/-- A body of one octet that names a slot is well-formed (R142). -/
theorem malformedBody_slotBody {kind k : Nat} (hkind : kind = kindSlotClaim ∨ kind = kindSlotRelease) (hk : k ≤ 11) :
    malformedBody kind [BitVec.ofNat 8 k] = false := by
  have hlength : kindBodyLength kind = some 1 := by rcases hkind with rfl | rfl <;> rfl
  simp [malformedBody, hlength, octetAt_slotBody hk, Nat.not_lt.mpr hk]

section
variable {m : LinkMessage} {k : Nat} {s : State} (h : receivesMessage s.dev) (hk : k ≤ 11)
  (hm : m.body = [BitVec.ofNat 8 k])
include h hk hm

/-- SLOT_CLAIM_MESSAGE is the claim's completion behind the end of the message (R157). -/
theorem exec_slotClaimMessage_received :
    exec (.slotClaimMessage m) s = .next (s.withDev (claimCompletes k m.source (afterMessage s.dev))) := by
  change Host.Outcome.next (s.withDev (messageArrives kindSlotClaim m s.dev)) = _
  rw [messageArrives_received h, acceptMessage, hm, malformedBody_slotBody (.inl rfl) hk, octetAt_slotBody hk]
  rfl

/-- SLOT_RELEASE_MESSAGE is the release's completion behind the end of the message (R158). -/
theorem exec_slotReleaseMessage_received :
    exec (.slotReleaseMessage m) s = .next (s.withDev (releaseCompletes k m.source (afterMessage s.dev))) := by
  change Host.Outcome.next (s.withDev (messageArrives kindSlotRelease m s.dev)) = _
  rw [messageArrives_received h, acceptMessage, hm, malformedBody_slotBody (.inr rfl) hk, octetAt_slotBody hk]
  rfl

end

/-! ### The Slot Table -/

theorem slotEntry_putSlotEntry_same {k : Nat} {e : SlotEntry} {d : Device} (h : k < d.table.length) :
    slotEntry k (putSlotEntry k e d) = e := by
  simp [slotEntry, putSlotEntry, List.getD_eq_getElem?_getD, h]

/-- A stored entry is there behind an event raised after it. -/
theorem slotEntry_raise_putSlotEntry {k : Nat} {e : SlotEntry} {x : EventDetail} {d : Device}
    (h : k < d.table.length) : slotEntry k (raise x (putSlotEntry k e d)) = e :=
  slotEntry_putSlotEntry_same h

theorem slotEntry_putSlotEntry_other {j k : Nat} {e : SlotEntry} {d : Device} (h : j ≠ k) :
    slotEntry k (putSlotEntry j e d) = slotEntry k d := by
  simp [slotEntry, putSlotEntry, List.getD_eq_getElem?_getD, List.getElem?_set_ne h]

/-- The second of two entries stored for one slot stands. -/
theorem putSlotEntry_raise_putSlotEntry (k : Nat) (e e' : SlotEntry) (x : EventDetail) (d : Device) :
    putSlotEntry k e' (raise x (putSlotEntry k e d)) = raise x (putSlotEntry k e' d) := by
  simp [putSlotEntry, raise, Device.setTable, Device.setEvents]

/-! ### Latched details -/

/-- What is latched stays latched while the events stay. -/
theorem isLatched_of_events_eq {e : EventDetail} {d d' : Device} (h : isLatched e d) (he : d'.events = d.events) :
    isLatched e d' := by
  rwa [isLatched, he]

/-- An event of another kind leaves a latched detail (R189). -/
theorem isLatched_raise_other {e x : EventDetail} {d : Device} (h : isLatched e d) (hne : eventKind e ≠ eventKind x) :
    isLatched e (raise x d) := by
  obtain ⟨hpending, hdetail⟩ := h
  refine ⟨(raise_pending_other x _ d hne).mpr hpending, ?_⟩
  simpa [raise, List.getD_eq_getElem?_getD, List.getElem?_set_ne hne.symm] using hdetail

/-! ### The outgoing queue (R149 to R151) -/

/-- Joining puts a message at its place and keeps the others (R149). -/
theorem joinQueue_perm (m : Queued) (q : List Queued) : (joinQueue m q).Perm (m :: q) := by
  unfold joinQueue
  split
  · rw [List.append_assoc]
    exact List.perm_middle.trans ((List.filter_append_perm _ q).cons m)
  · exact List.perm_append_singleton m q

/-- A message that joins does not add to a count it is not of. -/
theorem countP_joinQueue_of_not {p : Queued → Bool} {m : Queued} (q : List Queued) (h : p m = false) :
    (joinQueue m q).countP p = q.countP p := by
  rw [(joinQueue_perm m q).countP_eq p, List.countP_cons_of_neg (by simp [h])]

/-- A message that is withdrawn leaves one fewer of its like. -/
theorem countP_withoutFirst {p : Queued → Bool} {q : List Queued} (h : q.any p = true) :
    (withoutFirst p q).countP p = q.countP p - 1 := by
  obtain ⟨m, hm, hp⟩ := List.any_eq_true.mp h
  obtain ⟨x, before, after, -, hx, hq, herase⟩ := List.exists_of_eraseP hm hp
  rw [withoutFirst, herase, hq]
  simp only [List.countP_append, List.countP_cons_of_pos hx]
  omega

/-- A message of another kind is none of this kind about any slot. -/
theorem isSlotMessage_of_kind_ne {kind k : Nat} {m : Queued} (h : m.kind ≠ kind) : isSlotMessage kind k m = false := by
  simp [isSlotMessage, h]

/-- A change of one place of the Edit Ring is a change of the Edit Sequencer alone. -/
theorem updateEntry_eq_setEdit (p : Nat) (f : Entry → Entry) (d : Device) :
    updateEntry p f d = d.setEdit (updateEntry p f d).edit := by
  unfold updateEntry
  split <;> rfl

/-- A report that is queued joins the queue, and its entry alone changes with it (R89). -/
theorem queueReport_cases (p : Nat) (d : Device) :
    queueReport p d = d ∨ ∃ (n : Nat) (body : List Byte) (x : Edit), queueReport p d =
      (setQueue (joinQueue (newMessage kindEditReport n body (.report p)) d.link.queue) d).setEdit x := by
  unfold queueReport
  split
  · split
    · exact .inr ⟨_, _, _, updateEntry_eq_setEdit ..⟩
    · exact .inl rfl
  · exact .inl rfl

/-- What fills a free place: nothing, an owed release, or a report (R151). -/
theorem fillPlace_cases (d : Device) :
    fillPlace d = d ∨ (∃ j, (slotEntry j d).ownRelease = .owed ∧ fillPlace d = queueRelease j .owedRelease d) ∨
      ∃ p, fillPlace d = queueReport p d := by
  unfold fillPlace
  split
  · split
    next j hj => exact .inr (.inl ⟨j, by simpa using List.find?_some hj, rfl⟩)
    next =>
      split
      next p _ => exact .inr (.inr ⟨p, rfl⟩)
      next => exact .inl rfl
  · exact .inl rfl

/-- Filling a place raises no event. -/
theorem fillPlace_events (d : Device) : (fillPlace d).events = d.events := by
  obtain h | ⟨j, -, h⟩ | ⟨p, h⟩ := fillPlace_cases d
  · rw [h]
  · rw [h]
    rfl
  · rw [h]
    obtain h | ⟨n, body, x, h⟩ := queueReport_cases p d <;> rw [h]
    rfl

/-- Filling a place leaves the entry of a slot that owes no release. -/
theorem slotEntry_fillPlace {k : Nat} {d : Device} (hk : (slotEntry k d).ownRelease ≠ .owed) :
    slotEntry k (fillPlace d) = slotEntry k d := by
  obtain h | ⟨j, hj, h⟩ | ⟨p, h⟩ := fillPlace_cases d
  · rw [h]
  · have hne : j ≠ k := fun e => hk (e ▸ hj)
    rw [h]
    exact slotEntry_putSlotEntry_other hne
  · rw [h]
    obtain h | ⟨n, body, x, h⟩ := queueReport_cases p d <;> rw [h]
    rfl

/-- Filling a place puts no claim in the queue (R151). -/
theorem countP_claims_fillPlace (k : Nat) (d : Device) :
    (fillPlace d).link.queue.countP (isSlotMessage kindSlotClaim k) =
      d.link.queue.countP (isSlotMessage kindSlotClaim k) := by
  obtain h | ⟨j, -, h⟩ | ⟨p, h⟩ := fillPlace_cases d
  · rw [h]
  · have hrelease : kindSlotRelease ≠ kindSlotClaim := by decide
    rw [h]
    exact countP_joinQueue_of_not (m := newMessage kindSlotRelease 255 [BitVec.ofNat 8 j] .owedRelease) _
      (isSlotMessage_of_kind_ne hrelease)
  · have hreport : kindEditReport ≠ kindSlotClaim := by decide
    rw [h]
    obtain h | ⟨n, body, x, h⟩ := queueReport_cases p d <;> rw [h]
    exact countP_joinQueue_of_not (m := newMessage kindEditReport n body (.report p)) _
      (isSlotMessage_of_kind_ne hreport)

/-! ### Withdrawal of a message (R150, R151) -/

theorem withdrawFirst_events (p : Queued → Bool) (d : Device) : (withdrawFirst p d).events = d.events := by
  unfold withdrawFirst
  split
  · exact fillPlace_events _
  · rfl

theorem slotEntry_withdrawFirst {k : Nat} {d : Device} (p : Queued → Bool)
    (hk : (slotEntry k d).ownRelease ≠ .owed) : slotEntry k (withdrawFirst p d) = slotEntry k d := by
  unfold withdrawFirst
  split
  · exact slotEntry_fillPlace hk
  · rfl

/-- The withdrawal of a claim leaves one claim fewer for its slot, where there was one. -/
theorem countP_withdrawFirst_claim (k : Nat) (d : Device) :
    (withdrawFirst (isSlotMessage kindSlotClaim k) d).link.queue.countP (isSlotMessage kindSlotClaim k) =
      d.link.queue.countP (isSlotMessage kindSlotClaim k) - 1 := by
  unfold withdrawFirst
  split
  next hany => exact (countP_claims_fillPlace k _).trans (countP_withoutFirst hany)
  next hnone =>
    have hzero : d.link.queue.countP (isSlotMessage kindSlotClaim k) = 0 := by
      simpa [List.countP_eq_zero] using hnone
    rw [hzero]

theorem EditTraffic.ring_eq {d d' : Device} (h : EditTraffic d d') : d'.ring = d.ring := by rw [h.rest]
theorem EditTraffic.gate_eq {d d' : Device} (h : EditTraffic d d') : d'.gate = d.gate := by rw [h.rest]
theorem EditTraffic.chase_eq {d d' : Device} (h : EditTraffic d d') : d'.chase = d.chase := by rw [h.rest]

end Sys2Proof.Machine
end

section
/-! Settles O36: a completed SLOT_CLAIM. The claim's completion is split by whose the slot is and whose the claim; where
this station's own claim is withdrawn, the place that frees may be filled, which touches neither the slot nor the
events. -/

namespace Sys2Proof.Machine

open Sys2Proof

/-- A FREE entry that station `s` takes: HELD by it, the copy status UNKNOWN, no word yet and the counts at 0 (R157). -/
def claimedBy (s : Nat) (e : SlotEntry) : SlotEntry :=
  { e with owner := some s, copy := some .unknown, lastWord := none, absence := 0, invalidRun := 0 }

section
variable {k s : Nat} {d : Device}

/-- A claim for a HELD slot is ignored (R157). -/
theorem claimCompletes_held (ho : (slotEntry k d).owner ≠ none) : claimCompletes k s d = d := by
  obtain ⟨o, ho⟩ := Option.ne_none_iff_exists'.mp ho
  simp only [claimCompletes, ho]

variable (ho : (slotEntry k d).owner = none)
include ho

/-- This station's own claim is WON and the drive starts (R157). -/
theorem claimCompletes_own (hs : s = ownStation d) :
    claimCompletes k s d = raise (.claimResult k none) (stopDriving k (raise (.slotChange k (some s) .claimed)
      (putSlotEntry k { claimedBy s (slotEntry k d) with ownClaim := false, drive := some .driving } d))) := by
  simp only [claimCompletes, ho, if_pos hs]
  rfl

/-- Another station's claim makes it the owner, and this station's claim for the slot is withdrawn (R157). -/
theorem claimCompletes_other (hs : s ≠ ownStation d) :
    claimCompletes k s d = withdrawClaim k (raise (.slotChange k (some s) .claimed)
      (putSlotEntry k (claimedBy s (slotEntry k d)) d)) := by
  simp only [claimCompletes, ho, if_neg hs]
  rfl

end

/-- Without a claim queued there is nothing to withdraw. -/
theorem withdrawClaim_unclaimed {k : Nat} {d : Device} (hc : (slotEntry k d).ownClaim = false) :
    withdrawClaim k d = d := by simp [withdrawClaim, hc]

/-- A claim that is queued is withdrawn and REFUSED (R157, R160). -/
theorem withdrawClaim_claimed {k : Nat} {d : Device} (hc : (slotEntry k d).ownClaim = true) :
    withdrawClaim k d = raise (.claimResult k (some .taken))
      (withdrawFirst (isSlotMessage kindSlotClaim k) (putSlotEntry k { slotEntry k d with ownClaim := false } d)) := by
  simp [withdrawClaim, hc]

/-- The device between a claim's completion and the withdrawal of this station's own claim: the slot is taken, its own
claim flag is clear and SLOT_CHANGE is raised (R157). -/
def claimTaken (k s : Nat) (d : Device) : Device :=
  raise (.slotChange k (some s) .claimed)
    (putSlotEntry k { claimedBy s (slotEntry k d) with ownClaim := false } d)

section
variable {k s : Nat} {d : Device}

theorem slotEntry_claimTaken (hk : k < d.table.length) :
    slotEntry k (claimTaken k s d) = { claimedBy s (slotEntry k d) with ownClaim := false } :=
  slotEntry_raise_putSlotEntry hk

theorem isLatched_claimTaken (hd : 1 < d.events.details.length) :
    isLatched (.slotChange k (some s) .claimed) (claimTaken k s d) := raise_latched _ _ hd

/-- Another station's claim for a slot that this station has a claim queued for (R157). -/
theorem claimCompletes_claimed (hk : k < d.table.length) (ho : (slotEntry k d).owner = none)
    (hs : s ≠ ownStation d) (hc : (slotEntry k d).ownClaim = true) :
    claimCompletes k s d = raise (.claimResult k (some .taken))
      (withdrawFirst (isSlotMessage kindSlotClaim k) (claimTaken k s d)) := by
  rw [claimCompletes_other ho hs, withdrawClaim_claimed (by rw [slotEntry_raise_putSlotEntry hk]; exact hc),
    slotEntry_raise_putSlotEntry hk, putSlotEntry_raise_putSlotEntry]
  rfl

/-- Another station's claim for a slot that this station has no claim queued for (R157). -/
theorem claimCompletes_unclaimed (hk : k < d.table.length) (ho : (slotEntry k d).owner = none)
    (hs : s ≠ ownStation d) (hc : (slotEntry k d).ownClaim = false) :
    claimCompletes k s d = raise (.slotChange k (some s) .claimed)
      (putSlotEntry k (claimedBy s (slotEntry k d)) d) := by
  rw [claimCompletes_other ho hs, withdrawClaim_unclaimed (by rw [slotEntry_raise_putSlotEntry hk]; exact hc)]

end

/-- Settles O36: the four cases of the claim's completion. In the last one the slot's entry, the events and the count of
claims are followed through the withdrawal. -/
theorem claimMessageTakesFreeSlot : Obligations.ClaimMessageTakesFreeSlot := by
  intro m k s h hshape hk hm e changed
  obtain ⟨-, -, -, htable, -, -, -, hdetails, -, -⟩ := hshape
  have hslot : k < (afterMessage s.dev).table.length := show k < s.dev.table.length by omega
  have hkinds : 2 < (afterMessage s.dev).events.details.length := show 2 < s.dev.events.details.length by omega
  rw [exec_slotClaimMessage_received h hk hm]
  refine ⟨fun ho => ?held, fun ho hs => ?own, fun ho hs hc => ?unclaimed, fun ho hs hc hr => ?claimed⟩
  case held => rw [claimCompletes_held (d := afterMessage s.dev) ho]
  case own =>
    rw [claimCompletes_own (d := afterMessage s.dev) ho hs]
    rfl
  case unclaimed =>
    rw [claimCompletes_unclaimed hslot ho hs hc]
    rfl
  case claimed =>
    rw [claimCompletes_claimed hslot ho hs hc]
    have hentry := slotEntry_claimTaken (s := m.source) hslot
    have hevents := withdrawFirst_events (isSlotMessage kindSlotClaim k) (claimTaken k m.source (afterMessage s.dev))
    have htraffic := (raise_traffic (.slotChange k (some m.source) .claimed) _).trans
      (withdrawFirst_traffic (isSlotMessage kindSlotClaim k) (claimTaken k m.source (afterMessage s.dev)))
    have hchange := isLatched_of_events_eq (isLatched_claimTaken (Nat.lt_of_succ_lt hkinds)) hevents
    refine ⟨_, rfl, ?entry, isLatched_raise_other hchange (show 1 ≠ 2 by decide), raise_latched _ _ ?kind, ?queue,
      htraffic.ring_eq, htraffic.gate_eq, htraffic.chase_eq⟩
    case entry => exact (slotEntry_withdrawFirst _ (by rw [hentry]; exact hr)).trans hentry
    case kind => exact htraffic.details.symm ▸ hkinds
    case queue => exact countP_withdrawFirst_claim k _

end Sys2Proof.Machine
end

section
/-! Settles O37: a completed SLOT_RELEASE. The entry is freed, and the chase, where the slot was its lead, enters HOLDOVER
with an event of its own kind. -/

namespace Sys2Proof.Machine

open Sys2Proof

/-- The loss of lock marks the INSERTING entry alone (R102, R181). -/
theorem lockLost_eq_setEdit (d : Device) : lockLost d = d.setEdit (lockLost d).edit := by
  unfold lockLost
  split
  · exact updateEntry_eq_setEdit ..
  · rfl

/-- A change of the chase is one of the chase record, with its event and a mark in the Edit Sequencer (R181, R182). -/
theorem moveChase_eq (c : Chase) (cause : ChaseCause) (error : Option Int) (d : Device) :
    ∃ x : Edit, moveChase c cause error d = raise (.chaseChange c.state cause error) ((d.setEdit x).setChase c) := by
  unfold moveChase
  dsimp only
  split
  · exact ⟨_, by rw [lockLost_eq_setEdit]⟩
  · exact ⟨d.edit, rfl⟩

section
variable {k : Nat} {d : Device}

/-- A slot that is not the lead slot does not reach the chase (R178). -/
theorem leadFreed_other (h : d.chase.leadSlot ≠ some k) : leadFreed k d = d := if_neg h

/-- The freeing of a running chase's lead slot is its HOLDOVER (R178). -/
theorem leadFreed_lead (h : d.chase.leadSlot = some k) (hrun : chaseRunning d.chase = true) :
    leadFreed k d = moveChase (heldOver d.chase) .leadFree d.chase.error d := by
  simp [leadFreed, enterHoldover, h, hrun]

end

/-- The freeing of a slot reaches the chase record and the Edit Sequencer with a CHASE_CHANGE, or nothing (R178). -/
theorem leadFreed_cases (k : Nat) (d : Device) : leadFreed k d = d ∨
    ∃ (st : ChaseState) (cause : ChaseCause) (error : Option Int) (x : Edit) (c : Chase),
      leadFreed k d = raise (.chaseChange st cause error) ((d.setEdit x).setChase c) := by
  unfold leadFreed enterHoldover
  split
  · split
    · obtain ⟨x, hx⟩ := moveChase_eq (heldOver d.chase) .leadFree d.chase.error d
      exact .inr ⟨_, _, _, x, _, hx⟩
    · exact .inl rfl
  · exact .inl rfl

/-- Outside the chase record, the Edit Sequencer and the events the freeing of a slot leaves the device (R178). -/
theorem leadFreed_rest (k : Nat) (d : Device) : leadFreed k d =
    { d with edit := (leadFreed k d).edit, chase := (leadFreed k d).chase, events := (leadFreed k d).events } := by
  obtain h | ⟨st, cause, error, x, c, h⟩ := leadFreed_cases k d <;> rw [h]
  rfl

section
variable (k : Nat) (d : Device)

@[simp] theorem leadFreed_table : (leadFreed k d).table = d.table := by rw [leadFreed_rest]
@[simp] theorem leadFreed_gate : (leadFreed k d).gate = d.gate := by rw [leadFreed_rest]
@[simp] theorem leadFreed_link : (leadFreed k d).link = d.link := by rw [leadFreed_rest]
@[simp] theorem leadFreed_ring : (leadFreed k d).ring = d.ring := by rw [leadFreed_rest]
@[simp] theorem leadFreed_port : (leadFreed k d).port = d.port := by rw [leadFreed_rest]

end

/-- A latched detail of another kind than CHASE_CHANGE stays at the freeing of a slot. -/
theorem isLatched_leadFreed {e : EventDetail} {d : Device} (k : Nat) (h : isLatched e d) (he : eventKind e ≠ 14) :
    isLatched e (leadFreed k d) := by
  obtain hd | ⟨st, cause, error, x, c, hd⟩ := leadFreed_cases k d <;> rw [hd]
  · exact h
  · exact isLatched_raise_other (isLatched_of_events_eq h rfl) he

/-- The freeing of a slot makes no kind pending but CHASE_CHANGE. -/
theorem hasKind_leadFreed {i : Nat} (k : Nat) (d : Device) (hi : i ≠ 14) :
    hasKind i (leadFreed k d).events.pending ↔ hasKind i d.events.pending := by
  obtain hd | ⟨st, cause, error, x, c, hd⟩ := leadFreed_cases k d <;> rw [hd]
  exact raise_pending_other _ i _ hi

/-! ### The release's completion (R158) -/

/-- The device between the freeing of a released entry and the chase's part in it: the entry FREE but for its own claim
flag, SLOT_CHANGE raised, and the driving at its end. -/
def releasedEntry (k : Nat) (d : Device) : Device :=
  stopDriving k (raise (.slotChange k none .released)
    (putSlotEntry k { SlotEntry.free with ownClaim := (slotEntry k d).ownClaim } d))

section
variable {k s : Nat} {d : Device}

/-- A release that is not the owner's is ignored. -/
theorem releaseCompletes_notOwner (ho : (slotEntry k d).owner ≠ some s) : releaseCompletes k s d = d := if_neg ho

/-- The owner's release frees the entry and then reaches the chase. -/
theorem releaseCompletes_owner (ho : (slotEntry k d).owner = some s) :
    releaseCompletes k s d = leadFreed k (releasedEntry k d) := if_pos ho

theorem isLatched_releasedEntry (hd : 1 < d.events.details.length) :
    isLatched (.slotChange k none .released) (releasedEntry k d) := raise_latched (.slotChange k none .released) _ hd

/-- A release raises no SLOT_LOST, whose kind is 3. -/
theorem slotLost_releasedEntry : hasKind 3 (releasedEntry k d).events.pending ↔ hasKind 3 d.events.pending :=
  raise_pending_other (.slotChange k none .released) 3 d (show 3 ≠ 1 by decide)

end

/-- Settles O37: what the statement names holds of the freed entry, and the chase's part, which is nothing or a
CHASE_CHANGE, keeps it. -/
theorem releaseMessageFreesSlot : Obligations.ReleaseMessageFreesSlot := by
  intro m k s h hshape hk hm e
  obtain ⟨-, -, -, -, -, -, -, hdetails, -, -⟩ := hshape
  rw [exec_slotReleaseMessage_received h hk hm]
  refine ⟨fun ho => ?notOwner, fun ho => ?owner⟩
  case notOwner => rw [releaseCompletes_notOwner (d := afterMessage s.dev) ho]
  case owner =>
    rw [releaseCompletes_owner (d := afterMessage s.dev) ho]
    refine ⟨_, rfl, leadFreed_table .., leadFreed_gate .., leadFreed_link .., leadFreed_ring .., leadFreed_port ..,
      fun hlead => ?notLead, fun hlead hrun => ?lead, ?latched, ?slotLost⟩
    case notLead =>
      rw [leadFreed_other (d := releasedEntry k (afterMessage s.dev)) hlead]
      exact ⟨rfl, rfl, rfl⟩
    case lead =>
      rw [leadFreed_lead (d := releasedEntry k (afterMessage s.dev)) hlead hrun]
      rfl
    case latched =>
      have hkinds : 1 < (afterMessage s.dev).events.details.length := show 1 < s.dev.events.details.length by omega
      exact isLatched_leadFreed k (isLatched_releasedEntry hkinds) (show 1 ≠ 14 by decide)
    case slotLost => exact (hasKind_leadFreed k _ (by decide)).trans slotLost_releasedEntry

end Sys2Proof.Machine
end

section
/-! Lemmas for O20 and O21. A set of event kinds is known by the kinds it holds; ATTN and the three event commands are
stated in those terms. -/

namespace Sys2Proof.Machine

open Sys2Proof

/-! ### Sets of event kinds (R189, R197) -/

section
variable {k : Nat} {x y : BitVec 18}

theorem lt_of_hasKind (h : hasKind k x) : k < 18 := BitVec.lt_of_getLsbD h

/-- The kinds that two sets have in common. -/
theorem hasKind_and : hasKind k (x &&& y) ↔ hasKind k x ∧ hasKind k y := by simp [hasKind]

/-- The kinds that are left of a set when those of another are taken out. -/
theorem hasKind_and_not : hasKind k (x &&& ~~~y) ↔ hasKind k x ∧ ¬ hasKind k y := by
  rw [hasKind_and]
  refine and_congr_right fun hx => ?_
  simp [hasKind, lt_of_hasKind hx]

theorem exists_hasKind_iff : (∃ k, k < 18 ∧ hasKind k x) ↔ x ≠ 0 := by
  constructor
  · rintro ⟨k, -, hk⟩ rfl
    simp [hasKind] at hk
  · refine fun hx => Classical.byContradiction fun hnone => hx ?_
    have hclear (k : Nat) (hk : k < 18) : x.getLsbD k = false :=
      Bool.eq_false_iff.mpr fun hbit => hnone ⟨k, hk, hbit⟩
    exact BitVec.eq_of_getLsbD_eq fun k hk => (hclear k hk).trans BitVec.getLsbD_zero.symm

end

/-! ### The attention line (R191, R193) -/

section
variable {d : Device}

theorem attn_of_resetHeld (h : d.resetHeld = true) : attn d = false := by simp [attn, h]

/-- Outside reset ATTN says that the pending and the enabled set have a kind in common (R191). -/
theorem attn_iff (h : d.resetHeld = false) :
    attn d = true ↔ ∃ k, k < 18 ∧ hasKind k d.events.pending ∧ hasKind k d.events.enabled := by
  simp only [← hasKind_and, exists_hasKind_iff]
  simp [attn, h]

/-- ATTN is made of the two sets and of RESET alone. -/
theorem attn_congr {d' : Device} (hr : d'.resetHeld = d.resetHeld) (hp : d'.events.pending = d.events.pending)
    (he : d'.events.enabled = d.events.enabled) : attn d' = attn d := by simp only [attn, hr, hp, he]

/-- Where ATTN was released, a raised event asserts it exactly if its own kind is enabled (R189, R191). -/
theorem attn_raise_iff (e : EventDetail) (h : d.resetHeld = false) (hoff : attn d = false) :
    attn (raise e d) = true ↔ hasKind (eventKind e) d.events.enabled := by
  rw [attn_iff (d := raise e d) h]
  constructor
  · rintro ⟨k, hk, hpending, henabled⟩
    by_cases hke : k = eventKind e
    · exact hke ▸ henabled
    · have hbefore : hasKind k d.events.pending := (raise_pending_other e k d hke).mp hpending
      have hon : attn d = true := (attn_iff h).mpr ⟨k, hk, hbefore, henabled⟩
      rw [hoff] at hon
      cases hon
  · exact fun henabled => ⟨eventKind e, eventKind_lt e, raise_pending e d, henabled⟩

end

/-! ### The three event commands (R190) -/

/-- The device after EVENT_ENABLE with a set. -/
def enabling (x : BitVec 18) (d : Device) : Device := { d with events := { d.events with enabled := x } }

/-- The device after EVENT_EXCHANGE with a set of acknowledged kinds. -/
def acknowledging (x : BitVec 18) (d : Device) : Device :=
  { d with events := { d.events with pending := d.events.pending &&& ~~~x } }

section
variable {args : List Byte} {s : State} (h : commandReady s.dev)
include h

theorem exec_eventEnable_ready (hl : args.length = 3) : exec (.eventEnable args) s =
    .next (s.withDev (answered 21 args (done []) (enabling (eventSetArg args) s.dev))) := by
  change Host.Outcome.next (s.withDev (takeCommand 21 3 args (eventEnableRule args) s.dev)) = _
  rw [takeCommand_ready h hl, eventEnableRule, respond_changed 21 args _ _ rfl]
  rfl

theorem exec_eventExchange_ready (hl : args.length = 3) : exec (.eventExchange args) s =
    .next (s.withDev (answered 22 args (done (eventSetOctets s.dev.events.pending))
      (acknowledging (eventSetArg args) s.dev))) := by
  change Host.Outcome.next (s.withDev (takeCommand 22 3 args (eventExchangeRule args) s.dev)) = _
  rw [takeCommand_ready h hl, eventExchangeRule, respond_changed 22 args _ _ rfl]
  rfl

/-- EVENT_DETAIL for a kind of the event table. -/
theorem exec_eventDetail_ready (hl : args.length = 1) (hk : octetAt 0 args ≤ 17) : exec (.eventDetail args) s =
    .next (s.withDev (answered 23 args (done (detailData (octetAt 0 args) s.dev)) s.dev)) := by
  change Host.Outcome.next (s.withDev (takeCommand 23 1 args (eventDetailRule args) s.dev)) = _
  rw [takeCommand_ready h hl, eventDetailRule, if_neg (Nat.not_lt.mpr hk), respond_unchanged]
  rfl

/-- EVENT_DETAIL for an octet that numbers no kind (R184). -/
theorem exec_eventDetail_badArg (hl : args.length = 1) (hk : 17 < octetAt 0 args) :
    exec (.eventDetail args) s = .next (s.withDev (answered 23 args (answer .badArg) s.dev)) := by
  change Host.Outcome.next (s.withDev (takeCommand 23 1 args (eventDetailRule args) s.dev)) = _
  rw [takeCommand_ready h hl, eventDetailRule, if_pos hk, respond_unchanged]

end

theorem resetHeld_of_commandReady {d : Device} (h : commandReady d) : d.resetHeld = false := by
  obtain ⟨⟨hreset, -⟩, -⟩ := h
  exact hreset

/-- A raising of an event does not reach the port or the configuration. -/
theorem commandReady_raise {d : Device} (e : EventDetail) (h : commandReady d) : commandReady (raise e d) := h

/-- A kind is left pending by an exchange exactly if it was pending and not acknowledged. -/
theorem hasKind_acknowledging {k : Nat} {x : BitVec 18} {d : Device} :
    hasKind k (acknowledging x d).events.pending ↔ hasKind k d.events.pending ∧ ¬ hasKind k x := hasKind_and_not

/-- ATTN once a set is enabled: that set meets the pending one (R190, R191). -/
theorem attn_enabling_iff {x : BitVec 18} {d : Device} (h : d.resetHeld = false) :
    attn (enabling x d) = true ↔ ∃ k, k < 18 ∧ hasKind k d.events.pending ∧ hasKind k x :=
  attn_iff (d := enabling x d) h

/-- ATTN after an exchange: an enabled kind was pending and is not acknowledged (R190, R191). -/
theorem attn_acknowledging_iff {x : BitVec 18} {d : Device} (h : d.resetHeld = false) :
    attn (acknowledging x d) = true ↔
      ∃ k, k < 18 ∧ hasKind k d.events.pending ∧ hasKind k d.events.enabled ∧ ¬ hasKind k x := by
  rw [attn_iff (d := acknowledging x d) h]
  refine exists_congr fun k => and_congr_right fun _ => ?_
  rw [hasKind_acknowledging, and_assoc, and_comm (a := ¬ _)]
  rfl

end Sys2Proof.Machine
end

section
/-! Settles O20: EVENT_ENABLE, EVENT_EXCHANGE and EVENT_DETAIL. Each frame is its rule; what the sets hold after it is
said kind by kind. -/

namespace Sys2Proof.Machine

open Sys2Proof

/-- Settles O20: the sets named are those that `enabling` and `acknowledging` leave, and an event raised before or
after an exchange is pending by `raise_pending`. -/
theorem eventCommandsExchangeSets : Obligations.EventCommandsExchangeSets := by
  intro args s h carried
  have hreset := resetHeld_of_commandReady h
  refine ⟨fun hl => ⟨?enable, ?exchange, fun e => ⟨raise_pending e s.dev, ?raised⟩⟩,
    fun hl => ⟨fun hk => ?detail, exec_eventDetail_badArg h hl⟩⟩
  case enable =>
    exact ⟨eventSetArg args, exec_eventEnable_ready h hl, fun k _ => Iff.rfl, (attn_enabling_iff hreset).mpr⟩
  case exchange => exact ⟨_, exec_eventExchange_ready h hl, fun k _ => hasKind_acknowledging⟩
  case raised =>
    exact ⟨_, exec_eventExchange_ready (s := s.withDev (raise e s.dev)) (commandReady_raise e h) hl,
      fun hcarried hleft => (hasKind_acknowledging.mp hleft).2 hcarried, raise_pending e _⟩
  case detail =>
    rw [exec_eventDetail_ready h hl hk, detailData]
    cases s.dev.events.details.getD (octetAt 0 args) none <;> rfl

end Sys2Proof.Machine
end

section
/-! Settles O21: the attention line at the resets, at a raising and at the two commands that change the sets. -/

namespace Sys2Proof.Machine

open Sys2Proof

/-- Power-on, RESET and its release leave the reset values, with RESET held or not (R193). -/
theorem dev_of_reset {s t : State}
    (h : exec .powerOn s = .next t ∨ exec .resetAssert s = .next t ∨ exec .resetRelease s = .next t) :
    t.dev = Device.reset ∨ t.dev = Device.reset.setResetHeld true := by
  obtain h | h | h := h
  · cases h; exact .inl rfl
  · cases h; exact .inr rfl
  · cases h; exact .inl rfl

/-- No kind is pending or enabled at the reset values. -/
theorem attn_reset : attn Device.reset = false := rfl

/-- Settles O21: each clause is `attn_iff` with the sets that its event leaves; a response does not reach the sets. -/
theorem attnFollowsBothSets : Obligations.AttnFollowsBothSets := by
  refine ⟨fun _ => attn_iff, fun _ => attn_of_resetHeld, fun s t ht => ?resets,
    fun e d h hoff => ⟨attn_raise_iff e h hoff, raise_pending e d⟩, fun args s h hl => ?commands,
    fun _ _ => attn_congr⟩
  case resets =>
    obtain hd | hd := dev_of_reset ht <;> rw [hd]
    · exact attn_reset
    · exact attn_of_resetHeld rfl
  case commands =>
    have hreset := resetHeld_of_commandReady h
    exact ⟨⟨_, exec_eventEnable_ready h hl, attn_enabling_iff hreset⟩,
      ⟨_, exec_eventExchange_ready h hl, attn_acknowledging_iff hreset⟩⟩

end Sys2Proof.Machine
end
